-- ==== Sys2Proof/Word.lean ====
section
/-! DEFINITION. The word types of GAMP-DSP: what an event word, a ring entry and a response are (spec/30_encoding.md
R100, R104; spec/10_state.md R37; spec/20_memory.md R80, R81, R83). -/

namespace Sys2Proof

/-- One event word `W[39:0] = {cmd[7:0], data[31:0]}` (R100). -/
abbrev EventWord := BitVec 40

/-- One ring entry: a signed 32-bit conditioned sample (R37). It is the block's smallest unit of storage: no event
addresses a byte (R81). -/
abbrev Sample := BitVec 32

/-- One response on the host port (R104). -/
abbrev Response := BitVec 64

/-- The delay ring's contents as (slot, sample) pairs. `Sys2Proof.Machine.Memory.wf` is its canonical form and
`Sys2Proof.Machine.Memory.unlisted` what a slot that is not listed reads as. -/
abbrev Memory := List (Nat × Sample)

end Sys2Proof
end

