-- ==== Sys2Proof/Syntax.lean ====
section
/-! DEFINITION. The events of GAMP-DSP (spec/30_encoding.md R103, R108): the block's "instructions". One constructor for
each mnemonic of spec/opcode_table.json; the table's rows of one mnemonic cut one operand's range into masks. -/

namespace Sys2Proof

/-- The five effects in the document's priority order (spec/10_state.md R43). -/
inductive Effect where
  | delay | chorus | tremolo | bass | reverb
deriving DecidableEq, Repr

/-- The seven parameters (spec/10_state.md R45). -/
inductive Param where
  | delayLen | chorusLen | chorusRate | tremRate | tremDepth | bassGain | revMix
deriving DecidableEq, Repr

/-- The sixteen diagnostic items of RDST (spec/47_host.md R276). -/
inductive Item where
  | bias | biasSeeded | hpfLp | agcGain | wrCursor | samplesWritten | tickCount | outLevel
  | encPrev | lastAny | anyAccepted | btnPrev | phC | phT | lpB | tremInc
deriving DecidableEq, Repr

/-- One event with its operands assembled (R103). `raw` and `value` are the integers that the 32-bit data field stands
for in two's complement (R10, R103); `WellFormed` says which integers those are. -/
inductive Instr where
  /-- One sampling tick with its raw sample (R130). -/
  | tick (raw : Int)
  /-- One encoder reading, A in bit 1 and B in bit 0 (R107, R241). -/
  | enc (ab : BitVec 2)
  /-- One button reading, bit `i` for `i` in 0..4 the button of effect `i`, bit 5 the encoder button (R106, R250). -/
  | btn (lv : BitVec 6)
  /-- Sets one enable flag (R270). -/
  | seten (e : Effect) (v : Bool)
  /-- Reads one enable flag (R271). -/
  | geten (e : Effect)
  /-- Writes one parameter through the clamp (R272). -/
  | setp (p : Param) (value : Int)
  /-- Reads one parameter (R273). -/
  | getp (p : Param)
  /-- Reads one internal field (R276). -/
  | rdst (item : Item)
deriving DecidableEq, Repr

end Sys2Proof
end

