-- ==== Sys2Proof/WellFormed.lean ====
section
/-! DEFINITION. Which terms of `Instr` are events: the operands whose type allows more than the event word's field
(spec/30_encoding.md R103, R113; spec/00_scope.md R8, RAW_W). Effect ids 5 to 7 and parameter ids 7 to 15 (R110, R111)
have no term at all. -/

namespace Sys2Proof

/-- The width of the raw sample and of the data field, the only legal value of the parameter RAW_W (R8). -/
def RAW_W : Nat := 32

/-- `x` is a value of a 32-bit two's complement field (R103; R113 "a decimal integer in [-2^31, 2^31-1]"). -/
abbrev InRawRange (x : Int) : Prop := -2 ^ (RAW_W - 1) ≤ x ∧ x ≤ 2 ^ (RAW_W - 1) - 1

/-- The operands of `i` are values the event word can carry. -/
def Instr.wf : Instr → Bool
  | .tick raw => decide (InRawRange raw)
  | .enc _ => true
  | .btn _ => true
  | .seten _ _ => true
  | .geten _ => true
  | .setp _ value => decide (InRawRange value)
  | .getp _ => true
  | .rdst _ => true

end Sys2Proof
end

