-- ==== Sys2Proof/Decode.lean ====
section
/-! DEFINITION. Decoding an event word and encoding an event (spec/30_encoding.md R100 to R112), the opcode table as data
(spec/opcode_table.json), and the pseudo-events (R114). -/

namespace Sys2Proof

/-! ## Identifiers -/

/-- The number of an effect (spec/10_state.md R43). -/
def Effect.id : Effect → BitVec 3
  | .delay => 0
  | .chorus => 1
  | .tremolo => 2
  | .bass => 3
  | .reverb => 4

/-- The effect of an identifier; 5 to 7 name none (R43, R110). -/
def Effect.ofId? (e : BitVec 3) : Option Effect :=
  if e = 0 then some .delay
  else if e = 1 then some .chorus
  else if e = 2 then some .tremolo
  else if e = 3 then some .bass
  else if e = 4 then some .reverb
  else none

/-- The number of a parameter (spec/10_state.md R45). -/
def Param.id : Param → BitVec 4
  | .delayLen => 0
  | .chorusLen => 1
  | .chorusRate => 2
  | .tremRate => 3
  | .tremDepth => 4
  | .bassGain => 5
  | .revMix => 6

/-- The parameter of an identifier; 7 to 15 name none (R45, R111). -/
def Param.ofId? (p : BitVec 4) : Option Param :=
  if p = 0 then some .delayLen
  else if p = 1 then some .chorusLen
  else if p = 2 then some .chorusRate
  else if p = 3 then some .tremRate
  else if p = 4 then some .tremDepth
  else if p = 5 then some .bassGain
  else if p = 6 then some .revMix
  else none

/-- The number of a diagnostic item (spec/47_host.md R276). -/
def Item.id : Item → BitVec 4
  | .bias => 0
  | .biasSeeded => 1
  | .hpfLp => 2
  | .agcGain => 3
  | .wrCursor => 4
  | .samplesWritten => 5
  | .tickCount => 6
  | .outLevel => 7
  | .encPrev => 8
  | .lastAny => 9
  | .anyAccepted => 10
  | .btnPrev => 11
  | .phC => 12
  | .phT => 13
  | .lpB => 14
  | .tremInc => 15

/-- The item of a number: "every item 0 to 15 is defined" (R276). -/
def Item.ofId (n : BitVec 4) : Item :=
  if n = 0 then .bias
  else if n = 1 then .biasSeeded
  else if n = 2 then .hpfLp
  else if n = 3 then .agcGain
  else if n = 4 then .wrCursor
  else if n = 5 then .samplesWritten
  else if n = 6 then .tickCount
  else if n = 7 then .outLevel
  else if n = 8 then .encPrev
  else if n = 9 then .lastAny
  else if n = 10 then .anyAccepted
  else if n = 11 then .btnPrev
  else if n = 12 then .phC
  else if n = 13 then .phT
  else if n = 14 then .lpB
  else .tremInc

/-! ## Fields of the event word -/

/-- `cmd = W[39:32]` (R100). -/
def EventWord.cmd (W : EventWord) : BitVec 8 := W.extractLsb' 32 8

/-- `data = W[31:0]` (R100). -/
def EventWord.data (W : EventWord) : BitVec 32 := W.extractLsb' 0 32

/-- `W = {cmd, data}` (R100). -/
def EventWord.make (cmd : BitVec 8) (data : BitVec 32) : EventWord := cmd ++ data

/-! ## Decode -/

/-- What a word decodes to (R112): an event, or the refusal `REFUSED_CMD(cmd)`. -/
inductive Decoded where
  | event (i : Instr)
  | refusedCmd (cmd : BitVec 8)
deriving DecidableEq, Repr

/-- The decode function of R112, test for test. -/
def decode (W : EventWord) : Decoded :=
  let cmd := W.cmd
  let data := W.data
  if cmd = 0x00#8 then .event (.tick data.toInt)
  else if cmd = 0x10#8 then .event (.enc (data.extractLsb' 0 2))
  else if cmd = 0x20#8 then .event (.btn (data.extractLsb' 0 6))
  else if cmd.extractLsb' 3 5 = 0b00110#5 then
    match Effect.ofId? (cmd.extractLsb' 0 3) with
    | some e => .event (.seten e (data.getLsbD 0))
    | none => .refusedCmd cmd
  else if cmd.extractLsb' 3 5 = 0b01000#5 then
    match Effect.ofId? (cmd.extractLsb' 0 3) with
    | some e => .event (.geten e)
    | none => .refusedCmd cmd
  else if cmd.extractLsb' 4 4 = 0b0101#4 then
    match Param.ofId? (cmd.extractLsb' 0 4) with
    | some p => .event (.setp p data.toInt)
    | none => .refusedCmd cmd
  else if cmd.extractLsb' 4 4 = 0b0110#4 then
    match Param.ofId? (cmd.extractLsb' 0 4) with
    | some p => .event (.getp p)
    | none => .refusedCmd cmd
  else if cmd.extractLsb' 4 4 = 0b0111#4 then .event (.rdst (Item.ofId (cmd.extractLsb' 0 4)))
  else .refusedCmd cmd

/-! ## Encode -/

/-- The command byte of an event: the class in `cmd[7:4]`, the sub-field in `cmd[3:0]` (R102, R108). -/
def Instr.cmd : Instr → BitVec 8
  | .tick _ => 0x00
  | .enc _ => 0x10
  | .btn _ => 0x20
  | .seten e _ => 0b00110#5 ++ e.id
  | .geten e => 0b01000#5 ++ e.id
  | .setp p _ => 0b0101#4 ++ p.id
  | .getp p => 0b0110#4 ++ p.id
  | .rdst item => 0b0111#4 ++ item.id

/-- The data field of an event, its ignored bits 0 (R102). -/
def Instr.data : Instr → BitVec 32
  | .tick raw => BitVec.ofInt 32 raw
  | .enc ab => ab.setWidth 32
  | .btn lv => lv.setWidth 32
  | .seten _ v => (BitVec.ofBool v).setWidth 32
  | .geten _ => 0
  | .setp _ value => BitVec.ofInt 32 value
  | .getp _ => 0
  | .rdst _ => 0

/-- The event word of an event (R100, R102). -/
def encode (i : Instr) : EventWord := EventWord.make i.cmd i.data

/-- The bits of the event word that carry meaning under a command byte; the others are the ignored bits of the formats
of R102. A reserved command is decided by its byte alone (R112: "whatever its data"). -/
def usedBits (cmd : BitVec 8) : EventWord :=
  EventWord.make 0xFF
    (if cmd = 0x00#8 then 0xFFFFFFFF
     else if cmd = 0x10#8 then 0x3
     else if cmd = 0x20#8 then 0x3F
     else if cmd.extractLsb' 4 4 = 0b0011#4 then 0x1
     else if cmd.extractLsb' 4 4 = 0b0101#4 then 0xFFFFFFFF
     else 0)

/-! ## The opcode table -/

/-- One row of spec/opcode_table.json: a word matches when its bits under `mask` are those of `pattern`. -/
structure OpcodeRow where
  mnemonic : String
  pattern : EventWord
  mask : EventWord
deriving DecidableEq, Repr

/-- The word has the row's fixed bits. -/
abbrev OpcodeRow.Matches (r : OpcodeRow) (W : EventWord) : Prop := W &&& r.mask = r.pattern

/-- The fourteen rows of spec/opcode_table.json, in its order. -/
def opcodeTable : List OpcodeRow :=
  [⟨"TICK", 0x0000000000, 0xFF00000000⟩,
   ⟨"ENC", 0x1000000000, 0xFF00000000⟩,
   ⟨"BTN", 0x2000000000, 0xFF00000000⟩,
   ⟨"SETEN", 0x3000000000, 0xFC00000000⟩,
   ⟨"SETEN", 0x3400000000, 0xFF00000000⟩,
   ⟨"GETEN", 0x4000000000, 0xFC00000000⟩,
   ⟨"GETEN", 0x4400000000, 0xFF00000000⟩] ++
  [⟨"SETP", 0x5000000000, 0xFC00000000⟩,
   ⟨"SETP", 0x5400000000, 0xFE00000000⟩,
   ⟨"SETP", 0x5600000000, 0xFF00000000⟩,
   ⟨"GETP", 0x6000000000, 0xFC00000000⟩,
   ⟨"GETP", 0x6400000000, 0xFE00000000⟩,
   ⟨"GETP", 0x6600000000, 0xFF00000000⟩,
   ⟨"RDST", 0x7000000000, 0xF000000000⟩]

/-- The mnemonic of an event (R108). -/
def Instr.mnemonic : Instr → String
  | .tick _ => "TICK"
  | .enc _ => "ENC"
  | .btn _ => "BTN"
  | .seten _ _ => "SETEN"
  | .geten _ => "GETEN"
  | .setp _ _ => "SETP"
  | .getp _ => "GETP"
  | .rdst _ => "RDST"

/-! ## Pseudo-events -/

/-- The pseudo-events of R114. -/
inductive Pseudo where
  | press (e : Effect)
  | rotcw
  | rotccw
  | idle (n : Nat) (raw : Int)
deriving DecidableEq, Repr

/-- The button reading with only the button of `e` pressed (R106, R114). -/
def Effect.button : Effect → BitVec 6
  | .delay => 0b000001
  | .chorus => 0b000010
  | .tremolo => 0b000100
  | .bass => 0b001000
  | .reverb => 0b010000

/-- The expansions of R114. -/
def Pseudo.expand : Pseudo → List Instr
  | .press e => [.btn e.button, .btn 0]
  | .rotcw => [.enc 0b01, .enc 0b11, .enc 0b10, .enc 0b00]
  | .rotccw => [.enc 0b10, .enc 0b11, .enc 0b01, .enc 0b00]
  | .idle n raw => List.replicate n (.tick raw)

/-! ## The host's view of the decoder -/

/-- The event word of a table word: the `nbits` low bits of `w`, every bit above them 0. A number that needs more than
40 bits is no event word (R100: "Every event word has the same length"). -/
def tableWord (nbits w : Nat) : EventWord := BitVec.ofNat 40 (w % 2 ^ nbits)

/-- The instruction the decoder reads from a word of the opcode table. -/
def decodeTableWord (nbits w : Nat) : Option Instr :=
  if w % 2 ^ nbits < 2 ^ 40 then
    match decode (tableWord nbits w) with
    | .event i => some i
    | .refusedCmd _ => none
  else none

end Sys2Proof
end

