-- ==== Sys2Proof/Config.lean ====
section
/-! DEFINITION. The configuration `cfg` of spec/00_scope.md R8, the legality rules R8 and R9, the implementation's own
configuration (the source's values where it fixes them, an opaque constant where R8 says OPEN), and the effect engines of a
supplied EFFECT_IMPL (spec/43_effects.md R195: opaque constants). -/

namespace Sys2Proof

/-- One value per effect (spec/10_state.md R55: an indexed field of five entries). -/
structure PerEffect (α : Type) where
  delay : α
  chorus : α
  tremolo : α
  bass : α
  reverb : α
deriving DecidableEq, Repr

/-- One value per parameter (spec/10_state.md R55: an indexed field of seven entries). -/
structure PerParam (α : Type) where
  delayLen : α
  chorusLen : α
  chorusRate : α
  tremRate : α
  tremDepth : α
  bassGain : α
  revMix : α
deriving DecidableEq, Repr

/-- Range, encoder step and reset value of one parameter (R8: MIN_p, MAX_p, STEP_p, INIT_p). -/
structure ParamRange where
  MIN : Int
  MAX : Int
  STEP : Int
  INIT : Int
deriving DecidableEq, Repr

/-- Which signal feeds the scaler (R8, HPF_SEL). -/
inductive HpfSel where
  | filtered | bypass
deriving DecidableEq, Repr

/-- The AGC attack law (R8, AGC_ATTACK). -/
inductive AgcAttack where
  | set | min
deriving DecidableEq, Repr

/-- The effect-engine algorithms (R8, EFFECT_IMPL): the reference design, or a supplied set. -/
inductive EffectImpl where
  | ref | supplied
deriving DecidableEq, Repr

/-- The configuration record of R8, under the spec's own names. RAW_W is the constant `RAW_W`, its only legal value. A
field's default is the value R8 gives the parameter; an OPEN parameter has none. -/
structure Config where
  BUF_N : Nat
  DC_K : Nat := 10
  HPF_COEFF : Nat
  HPF_SEL : HpfSel
  SCALE_SHIFT : Nat := 15
  AGC_THRESH : Nat
  AGC_R : Nat
  AGC_MIN_GAIN : Nat
  AGC_STEP : Nat
  AGC_ATTACK : AgcAttack := .set
  LIM_IN_T : Nat
  DRY_WEIGHT : Nat := 62
  WET_WEIGHT : Nat := 192
  OUT_CLIP : Nat
  OUTPUT_SCALE : Nat
  DEBOUNCE_TICKS : Nat
  range : PerParam ParamRange
  EFFECT_IMPL : EffectImpl := .ref
  RATE_DIV : Nat
  CH_SWING : Nat
  BB_SHIFT : Nat
  RV_D1 : Nat
  RV_D2 : Nat
deriving DecidableEq, Repr

/-- The legal ranges of R8's table. -/
abbrev Config.RangesLegal (c : Config) : Prop :=
  (2 ≤ c.BUF_N ∧ c.BUF_N ≤ 2 ^ 24) ∧ c.DC_K ≤ 31 ∧ c.HPF_COEFF ≤ 256 ∧
  (3 ≤ c.SCALE_SHIFT ∧ c.SCALE_SHIFT ≤ 62) ∧ c.AGC_THRESH ≤ 2 ^ 31 - 1 ∧ c.AGC_R ≤ 62 ∧
  c.AGC_MIN_GAIN ≤ 256 ∧ (1 ≤ c.AGC_STEP ∧ c.AGC_STEP ≤ 256) ∧ c.LIM_IN_T ≤ 2 ^ 31 - 1 ∧
  c.DRY_WEIGHT ≤ 256 ∧ c.WET_WEIGHT ≤ 256 ∧ c.OUT_CLIP ≤ 2 ^ 31 - 1 ∧ c.OUTPUT_SCALE ≤ 2 ^ 31 - 1 ∧
  c.DEBOUNCE_TICKS ≤ 2 ^ 32 - 1 ∧ (1 ≤ c.RATE_DIV ∧ c.RATE_DIV ≤ 2 ^ 31 - 1) ∧
  c.CH_SWING ≤ 2 ^ 15 ∧ c.BB_SHIFT ≤ 31

/-- R9's rule for every parameter: the reset value in the range, and the step in the range's width. -/
abbrev ParamRange.Legal (r : ParamRange) : Prop :=
  r.MIN ≤ r.INIT ∧ r.INIT ≤ r.MAX ∧ 0 ≤ r.STEP ∧ r.STEP ≤ r.MAX - r.MIN

/-- The range lies within `[lo, hi]`, the form R9's rules on one parameter's range take. -/
abbrev ParamRange.Within (r : ParamRange) (lo hi : Int) : Prop := lo ≤ r.MIN ∧ r.MIN ≤ r.MAX ∧ r.MAX ≤ hi

/-- The relations of R9. -/
abbrev Config.RelationsLegal (c : Config) : Prop :=
  c.range.delayLen.Within 1 (c.BUF_N - 1) ∧
  (1 ≤ c.range.chorusLen.MIN ∧ c.range.chorusLen.MAX + c.CH_SWING ≤ c.BUF_N - 1) ∧
  c.range.chorusRate.Within 0 (c.RATE_DIV - 1) ∧ c.range.tremRate.Within 0 (c.RATE_DIV - 1) ∧
  c.range.tremDepth.Within 0 256 ∧ c.range.revMix.Within 0 256 ∧ c.range.bassGain.Within 0 65536 ∧
  (1 ≤ c.RV_D1 ∧ c.RV_D1 < c.RV_D2 ∧ c.RV_D2 ≤ c.BUF_N - 1) ∧ c.DRY_WEIGHT + c.WET_WEIGHT ≤ 256 ∧
  c.range.delayLen.Legal ∧ c.range.chorusLen.Legal ∧ c.range.chorusRate.Legal ∧ c.range.tremRate.Legal ∧
  c.range.tremDepth.Legal ∧ c.range.bassGain.Legal ∧ c.range.revMix.Legal

/-- The legality check (R8, R9). -/
def Config.isLegal (c : Config) : Bool := decide c.RangesLegal && decide c.RelationsLegal

/-- A configuration with the proof that it is legal: an illegal one "has no machine" (spec/60_exceptions.md R292), so a
machine state carries one of these. -/
structure LegalConfig extends Config where
  legal : toConfig.isLegal = true
deriving DecidableEq, Repr

/-! ## The test configurations of spec/95_test_vectors.md

They make the vectors readable and are "not claims about the original design". TC also shows that a legal configuration
exists, which is all the opaque constant below takes from it. -/

/-- TC, the main test configuration. -/
def Config.tc : LegalConfig where
  BUF_N := 40000
  DC_K := 10
  HPF_COEFF := 32
  HPF_SEL := .filtered
  SCALE_SHIFT := 15
  AGC_THRESH := 2000
  AGC_R := 3
  AGC_MIN_GAIN := 64
  AGC_STEP := 1
  AGC_ATTACK := .set
  LIM_IN_T := 3000
  DRY_WEIGHT := 62
  WET_WEIGHT := 192
  OUT_CLIP := 4000
  OUTPUT_SCALE := 8000
  DEBOUNCE_TICKS := 100
  range :=
    { delayLen := ⟨1, 39999, 100, 1000⟩
      chorusLen := ⟨8, 512, 8, 128⟩
      chorusRate := ⟨1, 100, 1, 5⟩
      tremRate := ⟨1, 200, 1, 40⟩
      tremDepth := ⟨0, 256, 16, 128⟩
      bassGain := ⟨0, 512, 32, 128⟩
      revMix := ⟨0, 256, 16, 64⟩ }
  EFFECT_IMPL := .ref
  RATE_DIV := 163840
  CH_SWING := 64
  BB_SHIFT := 6
  RV_D1 := 1103
  RV_D2 := 1637
  legal := by decide

/-- TC-B: TC with HPF_SEL = BYPASS and DC_K = 31. -/
def Config.tcB : LegalConfig where
  toConfig := { Config.tc.toConfig with HPF_SEL := .bypass, DC_K := 31 }
  legal := by decide

/-- TC-S: a small ring. -/
def Config.tcS : LegalConfig where
  BUF_N := 8
  DC_K := 31
  HPF_COEFF := 0
  HPF_SEL := .bypass
  SCALE_SHIFT := 3
  AGC_THRESH := 2 ^ 31 - 1
  AGC_R := 0
  AGC_MIN_GAIN := 0
  AGC_STEP := 1
  AGC_ATTACK := .set
  LIM_IN_T := 2 ^ 31 - 1
  DRY_WEIGHT := 62
  WET_WEIGHT := 192
  OUT_CLIP := 4000
  OUTPUT_SCALE := 8000
  DEBOUNCE_TICKS := 2
  range :=
    { delayLen := ⟨1, 7, 1, 3⟩
      chorusLen := ⟨1, 3, 1, 2⟩
      chorusRate := ⟨0, 100, 1, 0⟩
      tremRate := ⟨0, 100, 1, 0⟩
      tremDepth := ⟨0, 256, 16, 128⟩
      bassGain := ⟨0, 512, 32, 128⟩
      revMix := ⟨0, 256, 16, 64⟩ }
  EFFECT_IMPL := .ref
  RATE_DIV := 163840
  CH_SWING := 4
  BB_SHIFT := 2
  RV_D1 := 3
  RV_D2 := 5
  legal := by decide

/-! ## The implementation's own configuration -/

/-- A legal configuration in a box. Its default value shows only that a legal configuration exists, so that the opaque
constant below needs no body. -/
structure ConfigChoice where
  choice : LegalConfig := Config.tc
deriving Inhabited

/-- The implementation's choice of the OPEN parameters of R8, which have no value in the spec: an opaque constant, and
nothing can be proved of it but that it is legal (notes/assumptions/2.md). -/
opaque Config.implementationChoice : ConfigChoice

/-- The parameters that are "Fixed by the source and not open" (spec/92_eei_decisions.md, end) have the source's values
(R8; the weights: spec/42_delay.md R173). -/
abbrev Config.SourceFixed (c : Config) : Prop :=
  c.DC_K = 10 ∧ c.SCALE_SHIFT = 15 ∧ c.DRY_WEIGHT = 62 ∧ c.WET_WEIGHT = 192

/-- A configuration with the source's values in the parameters the source fixes, every other parameter as it was. -/
def Config.withSourceValues (c : LegalConfig) : LegalConfig where
  toConfig := { c.toConfig with DC_K := 10, SCALE_SHIFT := 15, DRY_WEIGHT := 62, WET_WEIGHT := 192 }
  legal := by
    have h := c.legal
    simp only [Config.isLegal, Bool.and_eq_true, decide_eq_true_eq] at h ⊢
    obtain ⟨⟨hN, -, hH, -, hT, hR, hM, hS, hL, -, -, ranges⟩, d, ch, cr, tr, td, rm, bg, rv, -, relations⟩ := h
    exact ⟨⟨hN, (show (10 : Nat) ≤ 31 by decide), hH, (show (3 : Nat) ≤ 15 ∧ 15 ≤ 62 by decide), hT, hR, hM, hS, hL,
        (show (62 : Nat) ≤ 256 by decide), (show (192 : Nat) ≤ 256 by decide), ranges⟩,
      d, ch, cr, tr, td, rm, bg, rv, (show (62 + 192 : Nat) ≤ 256 by decide), relations⟩

/-- The implementation's configuration, the one `State.reset` carries: the values the source fixes, and its own choice of
the others. -/
def Config.implementation : LegalConfig := Config.withSourceValues Config.implementationChoice.choice

/-! ## A supplied set of effect engines (spec/43_effects.md R195)

"A model takes the four engines as a configuration field: for each engine a state type, a reset state and a per-tick
function from (enable, parameters, ring view, input sample, state) to (output sample, next state), assumed to satisfy
rules R191 to R194 and nothing else." The functions are opaque; `Machine/Effects.lean` puts R191 and R192 around them, and
R194 holds because an engine is shown no enable flag but its own. -/

/-- The state of one supplied engine: plain data into which any state can be coded. -/
abbrev EngineState := List Int

/-- What an engine sees on a tick: the configuration, its own enable flag, the parameters with their cached increments,
and the ring with the cursor and fill count from the start of the tick. -/
structure EngineView where
  cfg : LegalConfig
  enabled : Bool
  param : PerParam (BitVec 32)
  ch_inc : BitVec 32
  trem_inc : BitVec 32
  buf : Memory
  w0 : Nat
  sw : Nat

/-- The per-tick function of a supplied engine (R195), for each effect of the chain. -/
opaque Config.suppliedRun : Effect → EngineView → Int → EngineState → Int × EngineState

/-- The reset state of a supplied engine (R193, R195). -/
opaque Config.suppliedReset : Effect → LegalConfig → EngineState

/-- The bound on a supplied engine's output magnitude (R192), a function of the configuration: the input bound of every
engine in the chain is one too (notes/assumptions/6.md). -/
opaque Config.suppliedBound : Effect → LegalConfig → Nat

end Sys2Proof
end

