-- ==== Sys2Proof/Machine/Arith.lean ====
section
/-! DEFINITION. The arithmetic primitives of spec/00_scope.md R11 to R14: rules compute on exact integers (R10), and a
value is narrowed to a register's width in one place, `toReg`. -/

namespace Sys2Proof.Machine

/-- `a >> s`: the arithmetic right shift of a signed integer (R12). -/
def asr (a : Int) (s : Nat) : Int := a >>> s

/-- `clamp(v, lo, hi) = min(hi, max(lo, v))` (R14). -/
def clamp (v lo hi : Int) : Int := min hi (max lo v)

/-- `abs(v)`, the magnitude of v (R14). -/
def magnitude (v : Int) : Int := v.natAbs

/-- The value a `w`-bit register holds after `v` is written to it. The rules write no value outside the register's range
when the configuration is legal (R10). -/
def toReg (w : Nat) (v : Int) : BitVec w := BitVec.ofInt w v

/-- `sext_64(v)` (R11). -/
def sext64 {w : Nat} (v : BitVec w) : Response := v.signExtend 64

/-- `zext_64(v)` (R11). -/
def zext64 {w : Nat} (v : BitVec w) : Response := v.setWidth 64

/-- A one-bit field as an unsigned 64-bit response. -/
def zextFlag (b : Bool) : Response := zext64 (BitVec.ofBool b)

end Sys2Proof.Machine
end

