-- ==== Sys2Proof/Machine/Lfo.lean ====
section
/-! DEFINITION. The LFO of the reference engines (spec/43_effects.md R196, R197). -/

namespace Sys2Proof.Machine

/-- `TRI(ph)`: the triangle read-out of a 32-bit phase (R196). -/
def tri (ph : BitVec 32) : Int :=
  let t := (ph.extractLsb' 16 16).toNat
  if t < 32768 then t else 65535 - t

/-- `INC(rate) = floor(rate * 2^32 / RATE_DIV)`, the only division of the block (R197). -/
def inc (RATE_DIV : Nat) (rate : Int) : BitVec 32 := toReg 32 (rate * 2 ^ 32 / RATE_DIV)

end Sys2Proof.Machine
end

