-- ==== Sys2Proof/Machine/State.lean ====
section
/-! DEFINITION. The machine's state (spec/10_state.md R30 to R56), its inputs and ports (spec/30_encoding.md R101), the
ways a step can stop, and the state after reset (spec/70_reset_and_hazards.md R310). -/

namespace Sys2Proof.Machine

/-- One transaction on an input port (R101): an event word, or a change of the reset input's level. Reset "is an input of
the model, not an event word" (spec/70_reset_and_hazards.md R313). -/
inductive Input where
  | event (W : EventWord)
  | reset (asserted : Bool)
deriving DecidableEq, Repr

/-- The states of the four engines of a supplied EFFECT_IMPL (spec/43_effects.md R195). -/
structure SuppliedStates where
  chorus : EngineState
  tremolo : EngineState
  bass : EngineState
  reverb : EngineState
deriving DecidableEq, Repr

/-- The machine's state. Registers have the spec's names and widths; flags are Bool (R16: "Boolean state is 0 or 1").
The last six fields are not of spec/10_state.md's record: the configuration the machine was built with, the states of a
supplied engine set, and the ports of R101. -/
structure State where
  /-- The DC-bias estimate, signed (R33). -/
  bias : BitVec 32
  /-- 1 from the first TICK on (R34). -/
  bias_seeded : Bool
  /-- The high-pass filter's low-pass state, signed (R35). -/
  hpf_lp : BitVec 64
  /-- The AGC gain in units of 1/256, unsigned (R36). -/
  agc_gain : BitVec 9
  /-- The delay ring (R37). -/
  buf : Memory
  /-- The write cursor, unsigned (R38). -/
  wr_cursor : BitVec 32
  /-- The number of ring writes since reset, saturating at BUF_N, unsigned (R39). -/
  samples_written : BitVec 32
  /-- The tick counter, wrapping (R41). -/
  tick_count : BitVec 32
  /-- The last value sent to the output sink, unsigned (R42). -/
  out_level : BitVec 32
  /-- The enable flags (R44). -/
  en : PerEffect Bool
  /-- The parameters, signed (R45). -/
  param : PerParam (BitVec 32)
  /-- The cached phase increment of the chorus LFO (R46). -/
  ch_inc : BitVec 32
  /-- The cached phase increment of the tremolo LFO (R46). -/
  trem_inc : BitVec 32
  /-- The chorus LFO's phase (R47; REF only). -/
  ph_c : BitVec 32
  /-- The tremolo LFO's phase (R47; REF only). -/
  ph_t : BitVec 32
  /-- The bass-boost low-pass state, signed (R48; REF only). -/
  lp_b : BitVec 64
  /-- The previous encoder reading (R49). -/
  enc_prev : BitVec 2
  /-- The clockwise-seen flag (R49). -/
  cw_seen : Bool
  /-- The counter-clockwise-seen flag (R49). -/
  ccw_seen : Bool
  /-- The previous button reading (R50). -/
  btn_prev : BitVec 6
  /-- Per button, the tick of its last accepted press (R51). -/
  last_btn : PerEffect (BitVec 32)
  /-- The tick of the last accepted press on any button (R51). -/
  last_any : BitVec 32
  /-- 1 once any press has been accepted since reset (R51). -/
  any_accepted : Bool
  /-- The sticky model mark of a refused event (R53). -/
  refused : Bool
  /-- The configuration the machine was built with; no step writes it (R8, R52). -/
  cfg : LegalConfig
  /-- The states of the supplied engines; unused under REF (spec/43_effects.md R195). -/
  supplied : SuppliedStates
  /-- The inputs the environment delivers next, in its order (R6, R101). -/
  pending : List Input
  /-- The level of the reset input (R101, R313). -/
  reset_asserted : Bool
  /-- The values emitted on the output-level port, oldest first (R101, R327). -/
  outputs : List (BitVec 32)
  /-- The values emitted on the host response port, oldest first (R101, R327). -/
  responses : List Response
deriving DecidableEq, Repr

/-- The ways a step stops with a fault: none. No event raises an exception for any operand value
(spec/60_exceptions.md R290) and no rule has a `raise` (spec/00_scope.md R15), so nobody raises one, and that is safe. -/
inductive Fault where
deriving DecidableEq, Repr

/-- The ways the model can have no meaning for an instruction. A reserved command value is not one of them: the spec
gives it an effect (spec/60_exceptions.md R291), which `refuseCommand` models. -/
inductive Refusal where
  /-- Raised by an arm of `exec` whose instruction has no meaning yet, under the instruction's mnemonic; safe, since
  nothing can be proved of the state after it. No arm raises it now. -/
  | notModelled (mnemonic : String)
deriving DecidableEq, Repr

/-- The state right after reset of the machine built with `cfg`: the table of R310, no input delivered, the reset input
released (R311: "After reset every event kind is accepted") and nothing emitted. -/
def State.resetWith (cfg : LegalConfig) : State where
  bias := 0
  bias_seeded := false
  hpf_lp := 0
  agc_gain := 256
  buf := []
  wr_cursor := 0
  samples_written := 0
  tick_count := 0
  out_level := BitVec.ofNat 32 (cfg.OUTPUT_SCALE >>> 1)
  en := ⟨false, false, false, false, false⟩
  param :=
    { delayLen := toReg 32 cfg.range.delayLen.INIT
      chorusLen := toReg 32 cfg.range.chorusLen.INIT
      chorusRate := toReg 32 cfg.range.chorusRate.INIT
      tremRate := toReg 32 cfg.range.tremRate.INIT
      tremDepth := toReg 32 cfg.range.tremDepth.INIT
      bassGain := toReg 32 cfg.range.bassGain.INIT
      revMix := toReg 32 cfg.range.revMix.INIT }
  ch_inc := inc cfg.RATE_DIV cfg.range.chorusRate.INIT
  trem_inc := inc cfg.RATE_DIV cfg.range.tremRate.INIT
  ph_c := 0
  ph_t := 0
  lp_b := 0
  enc_prev := 0b00
  cw_seen := false
  ccw_seen := false
  btn_prev := 0b000000
  last_btn := ⟨0, 0, 0, 0, 0⟩
  last_any := 0
  any_accepted := false
  refused := false
  cfg := cfg
  supplied :=
    { chorus := Config.suppliedReset .chorus cfg
      tremolo := Config.suppliedReset .tremolo cfg
      bass := Config.suppliedReset .bass cfg
      reverb := Config.suppliedReset .reverb cfg }
  pending := []
  reset_asserted := false
  outputs := []
  responses := []

/-- The state right after reset of the implementation's machine: the values the source fixes, and an opaque legal choice of the
OPEN parameters (notes/assumptions/2.md). -/
def State.reset : State := State.resetWith Config.implementation

end Sys2Proof.Machine
end

