-- ==== Sys2Proof/Machine/Operands.lean ====
section
/-! DEFINITION. Reading and writing the indexed fields (spec/10_state.md R55), and the operand tables of the control path
and the host port: the relevant parameter (spec/46_dispatch.md R259), the priority order (R262), the RDST items
(spec/47_host.md R276). -/

namespace Sys2Proof.Machine

/-- Reads entry `e` of an indexed field. -/
def getEffect {α : Type} (f : PerEffect α) : Effect → α
  | .delay => f.delay
  | .chorus => f.chorus
  | .tremolo => f.tremolo
  | .bass => f.bass
  | .reverb => f.reverb

/-- Writes entry `e` of an indexed field and no other. -/
def setEffect {α : Type} (f : PerEffect α) (e : Effect) (v : α) : PerEffect α :=
  match e with
  | .delay => { f with delay := v }
  | .chorus => { f with chorus := v }
  | .tremolo => { f with tremolo := v }
  | .bass => { f with bass := v }
  | .reverb => { f with reverb := v }

/-- Reads entry `p` of an indexed field. -/
def getParam {α : Type} (f : PerParam α) : Param → α
  | .delayLen => f.delayLen
  | .chorusLen => f.chorusLen
  | .chorusRate => f.chorusRate
  | .tremRate => f.tremRate
  | .tremDepth => f.tremDepth
  | .bassGain => f.bassGain
  | .revMix => f.revMix

/-- Writes entry `p` of an indexed field and no other. -/
def setParam {α : Type} (f : PerParam α) (p : Param) (v : α) : PerParam α :=
  match p with
  | .delayLen => { f with delayLen := v }
  | .chorusLen => { f with chorusLen := v }
  | .chorusRate => { f with chorusRate := v }
  | .tremRate => { f with tremRate := v }
  | .tremDepth => { f with tremDepth := v }
  | .bassGain => { f with bassGain := v }
  | .revMix => { f with revMix := v }

/-- The value of a parameter as the signed integer the rules compute with (R45). -/
def paramVal (s : State) (p : Param) : Int := (getParam s.param p).toInt

/-- `REL_PARAM(e)`, the parameter the encoder adjusts for an effect (R259). -/
def relParam : Effect → Param
  | .delay => .delayLen
  | .chorus => .chorusLen
  | .tremolo => .tremRate
  | .bass => .bassGain
  | .reverb => .revMix

/-- The least effect whose enable flag is 1, if any (R258, R262). -/
def priorityEffect (en : PerEffect Bool) : Option Effect :=
  if en.delay then some .delay
  else if en.chorus then some .chorus
  else if en.tremolo then some .tremolo
  else if en.bass then some .bass
  else if en.reverb then some .reverb
  else none

/-- An RDST item of the effect engines: 0 when EFFECT_IMPL is not REF (R276). -/
def refItem (s : State) (v : Response) : Response :=
  match s.cfg.EFFECT_IMPL with
  | .ref => v
  | .supplied => 0

/-- What RDST reads: "signed fields sign-extended to 64 bits, unsigned fields zero-extended" (R276). -/
def itemVal (s : State) : Item → Response
  | .bias => sext64 s.bias
  | .biasSeeded => zextFlag s.bias_seeded
  | .hpfLp => sext64 s.hpf_lp
  | .agcGain => zext64 s.agc_gain
  | .wrCursor => zext64 s.wr_cursor
  | .samplesWritten => zext64 s.samples_written
  | .tickCount => zext64 s.tick_count
  | .outLevel => zext64 s.out_level
  | .encPrev => zext64 s.enc_prev
  | .lastAny => zext64 s.last_any
  | .anyAccepted => zextFlag s.any_accepted
  | .btnPrev => zext64 s.btn_prev
  | .phC => refItem s (zext64 s.ph_c)
  | .phT => refItem s (zext64 s.ph_t)
  | .lpB => refItem s (sext64 s.lp_b)
  | .tremInc => refItem s (zext64 s.trem_inc)

end Sys2Proof.Machine
end

