-- ==== Sys2Proof/Machine/Flags.lean ====
section
/-! DEFINITION. Every computation of a flag (spec/10_state.md R54): the enable toggle, the rotation flags and the
classification behind them (spec/45_quadrature.md R240 to R245), the debounce predicate (spec/46_dispatch.md R252), the
refused mark (spec/60_exceptions.md R291). -/

namespace Sys2Proof.Machine

/-! ## Quadrature -/

/-- The reading after `r` in the clockwise Gray cycle `00 -> 01 -> 11 -> 10 -> 00` (R240). -/
def cwNext (r : BitVec 2) : BitVec 2 :=
  if r = 0b00#2 then 0b01#2
  else if r = 0b01#2 then 0b11#2
  else if r = 0b11#2 then 0b10#2
  else 0b00#2

/-- The classes of R242. -/
inductive Transition where
  | same | cwStep | ccwStep | jump
deriving DecidableEq, Repr

/-- The class of the transition from the reading `p` to the reading `r` (R242). -/
def classify (p r : BitVec 2) : Transition :=
  if r = p then .same
  else if r = cwNext p then .cwStep
  else if p = cwNext r then .ccwStep
  else .jump

/-- A clockwise event: `10 -> 00` (R242, R243). -/
def isCwEvent (p r : BitVec 2) : Bool := p == 0b10#2 && r == 0b00#2

/-- A counter-clockwise event: `01 -> 00` (R242, R243). -/
def isCcwEvent (p r : BitVec 2) : Bool := p == 0b01#2 && r == 0b00#2

/-- Sets the rotation flag of the transition to `r`, and takes `r` as the previous reading (R241, R243, R244). -/
def latchRotation (r : BitVec 2) (s : State) : State :=
  { s with
    cw_seen := s.cw_seen || isCwEvent s.enc_prev r
    ccw_seen := s.ccw_seen || isCcwEvent s.enc_prev r
    enc_prev := r }

/-- Clears both rotation flags (R245). -/
def clearRotation (s : State) : State := { s with cw_seen := false, ccw_seen := false }

/-! ## Buttons -/

/-- `rise = lv[4:0] & ~btn_prev[4:0]` (R250, R251). -/
def risingEdges (s : State) (lv : BitVec 6) : BitVec 5 := lv.extractLsb' 0 5 &&& ~~~(s.btn_prev.extractLsb' 0 5)

/-- Bit `i` of the rising edges, for the button of effect `i` (R106). -/
def riseOf (rise : BitVec 5) : Effect → Bool
  | .delay => rise.getLsbD 0
  | .chorus => rise.getLsbD 1
  | .tremolo => rise.getLsbD 2
  | .bass => rise.getLsbD 3
  | .reverb => rise.getLsbD 4

/-- `ACCEPT()`: the first press since reset, or more than DEBOUNCE_TICKS ticks, modulo 2^32, since the last accepted
press on any button (R252). -/
def accept (s : State) : Bool :=
  !s.any_accepted || decide ((s.tick_count - s.last_any).toNat > s.cfg.DEBOUNCE_TICKS)

/-- An accepted press: toggles the enable flag and records the tick (R254). -/
def acceptPress (e : Effect) (s : State) : State :=
  { s with
    en := setEffect s.en e (!getEffect s.en e)
    last_btn := setEffect s.last_btn e s.tick_count
    last_any := s.tick_count
    any_accepted := true }

/-! ## Enable flags and the refused mark -/

/-- Writes one enable flag (R270). -/
def setEnable (e : Effect) (v : Bool) (s : State) : State := { s with en := setEffect s.en e v }

/-- Sets the sticky mark `refused` and nothing else (R53, R291). -/
def markRefused (s : State) : State := { s with refused := true }

end Sys2Proof.Machine
end

