-- ==== Sys2Proof/Machine/Ops.lean ====
section
/-! DEFINITION. The shared operations: the delay ring (spec/20_memory.md R80, R83; spec/42_delay.md R170), the ports
(spec/00_scope.md R15), the one path by which a parameter changes (spec/46_dispatch.md R260) and the rotation dispatch
(R258), the refusal outcome (spec/60_exceptions.md R291, R294), reset (spec/70_reset_and_hazards.md R310, R313) and the
machine's constructor (R292). The refusal is the block's only abnormal end of an event: it has no exception, no trap entry
and no return from one (R290, R298). -/

namespace Sys2Proof.Machine

/-! ## Memory -/

/-- What a slot that is not listed reads as: every ring entry is 0 at reset (spec/10_state.md R37). -/
def Memory.unlisted : Sample := 0

/-- The canonical form: slots strictly rising, and no entry equal to what an unlisted slot reads as. -/
abbrev Memory.wf (m : Memory) : Prop := m.Pairwise (fun x y => x.1 < y.1) ∧ ∀ x ∈ m, x.2 ≠ Memory.unlisted

/-- Reads one slot. -/
def Memory.read : Memory → Nat → Sample
  | [], _ => Memory.unlisted
  | (a, x) :: m, i => if a = i then x else Memory.read m i

/-- Puts an entry in front, unless it holds what an unlisted slot reads as. -/
def Memory.cons (i : Nat) (v : Sample) (m : Memory) : Memory := if v = Memory.unlisted then m else (i, v) :: m

/-- Writes one slot and keeps the canonical form. -/
def Memory.write : Memory → Nat → Sample → Memory
  | [], i, v => Memory.cons i v []
  | (a, x) :: m, i, v =>
    if i < a then Memory.cons i v ((a, x) :: m)
    else if i = a then Memory.cons i v m
    else (a, x) :: Memory.write m i v

/-! ## The delay ring -/

/-- The slot an index stands for: "always reduced modulo BUF_N" (R80). -/
def ringSlot (s : State) (i : Nat) : Nat := i % s.cfg.BUF_N

/-- `BufRead(i)` (R83), the entry as a signed integer. -/
def bufRead (s : State) (i : Nat) : Int := (Memory.read s.buf (ringSlot s i)).toInt

/-- `BufWrite(i, v)` (R83). -/
def bufWrite (i : Nat) (v : Int) (s : State) : State :=
  { s with buf := Memory.write s.buf (ringSlot s i) (toReg 32 v) }

/-- `RSLOT(w0, dist) = (w0 - dist + N) mod N` (R170). -/
def rslot (N w0 : Nat) (dist : Int) : Nat := ((w0 - dist + N) % N).toNat

/-- The ring entry `dist` samples behind the cursor `w0`. -/
def tap (s : State) (w0 : Nat) (dist : Int) : Int := bufRead s (rslot s.cfg.BUF_N w0 dist)

/-! ## Ports -/

/-- `emit_out(v)`: places v on the output-level port (R15). -/
def emitOut (v : BitVec 32) (s : State) : State := { s with outputs := s.outputs ++ [v] }

/-- `respond(v)`: places v on the host response port (R15). -/
def respond (v : Response) (s : State) : State := { s with responses := s.responses ++ [v] }

/-! ## Parameters -/

/-- Writes one parameter register. -/
def setParamReg (p : Param) (v : Int) (s : State) : State := { s with param := setParam s.param p (toReg 32 v) }

/-- Recomputes the cached increment that goes with a parameter, if it has one (R260, R197). -/
def refreshInc (p : Param) (s : State) : State :=
  match p with
  | .delayLen => s
  | .chorusLen => s
  | .chorusRate => { s with ch_inc := inc s.cfg.RATE_DIV (paramVal s .chorusRate) }
  | .tremRate => { s with trem_inc := inc s.cfg.RATE_DIV (paramVal s .tremRate) }
  | .tremDepth => s
  | .bassGain => s
  | .revMix => s

/-- The range of a parameter (R45). -/
def rangeOf (s : State) (p : Param) : ParamRange := getParam s.cfg.range p

/-- `PARAM_WRITE(p, v)`: clamps, writes, and refreshes the cached increment (R260). -/
def paramWrite (p : Param) (v : Int) (s : State) : State :=
  refreshInc p (setParamReg p (clamp v (rangeOf s p).MIN (rangeOf s p).MAX) s)

/-- `ROT_DISPATCH(dir)` (R258, R261, R262). -/
def rotDispatch (dir : Int) (s : State) : State :=
  match priorityEffect s.en with
  | none => s
  | some e => paramWrite (relParam e) (paramVal s (relParam e) + dir * (rangeOf s (relParam e)).STEP) s

/-! ## The refusal outcome -/

/-- The outcomes of an event (R294). -/
inductive EventOutcome where
  | ok
  | refusedCmd
deriving DecidableEq, Repr

/-- The outcome's code (R294). -/
def EventOutcome.code : EventOutcome → Nat
  | .ok => 0
  | .refusedCmd => 1

/-- The outcome of an event word, decided from its command byte alone (R291, R295). -/
def eventOutcome (W : EventWord) : EventOutcome :=
  match decode W with
  | .event _ => .ok
  | .refusedCmd _ => .refusedCmd

/-- `refuse(REFUSED_CMD(cmd))`: no architectural effect, no output and no response, and the mark `refused` set. The
event's effect does not depend on which reserved command it was (R291). -/
def refuseCommand (_cmd : BitVec 8) (s : State) : State := markRefused s

/-! ## Reset and construction -/

/-- Every field of spec/10_state.md at its reset value (R310); the configuration, the environment's inputs and what the
ports have already emitted are no such fields (R312, R313). -/
def resetFields (s : State) : State :=
  { State.resetWith s.cfg with
    pending := s.pending
    reset_asserted := s.reset_asserted
    outputs := s.outputs
    responses := s.responses }

/-- A new level of the reset input: asserted, it puts every field in its reset value (R310, R313). -/
def setReset (asserted : Bool) (s : State) : State :=
  if asserted then { resetFields s with reset_asserted := true } else { s with reset_asserted := false }

/-- What the constructor answers (R292). -/
inductive Construction where
  | machine (s : State)
  | configIllegal
deriving DecidableEq, Repr

/-- The constructor: an illegal configuration has no machine (R292). -/
def construct (c : Config) : Construction :=
  if h : c.isLegal = true then .machine (State.resetWith ⟨c, h⟩) else .configIllegal

/-- Takes the first pending input away. -/
def consume (rest : List Input) (s : State) : State := { s with pending := rest }

end Sys2Proof.Machine
end

