-- ==== Sys2Proof/Machine/Buttons.lean ====
section
/-! DEFINITION. BTN, one button reading (spec/46_dispatch.md R250 to R256). -/

namespace Sys2Proof.Machine

/-- One turn of the loop of R250: a rising edge of the button of `e` is accepted, or discarded silently (R254, R255). -/
def pressButton (rise : BitVec 5) (s : State) (e : Effect) : State :=
  if riseOf rise e && accept s then acceptPress e s else s

/-- The state after a reading: btn_prev takes all six bits, then the buttons are examined in ascending order
(R250, R251, R253); bit 5 has no action (R256). -/
def btnState (lv : BitVec 6) (s : State) : State :=
  [Effect.delay, .chorus, .tremolo, .bass, .reverb].foldl (pressButton (risingEdges s lv)) { s with btn_prev := lv }

/-- BTN (R250). -/
def execBtn (lv : BitVec 6) (s : State) : Host.Outcome State Fault Refusal := .next (btnState lv s)

end Sys2Proof.Machine
end

