-- ==== Sys2Proof/Machine/HostPort.lean ====
section
/-! DEFINITION. The host port's events (spec/47_host.md R270 to R276). -/

namespace Sys2Proof.Machine

/-- SETEN e, v (R270): sets, does not toggle. -/
def execSeten (e : Effect) (v : Bool) (s : State) : Host.Outcome State Fault Refusal := .next (setEnable e v s)

/-- GETEN e (R271). -/
def execGeten (e : Effect) (s : State) : Host.Outcome State Fault Refusal :=
  .next (respond (zextFlag (getEffect s.en e)) s)

/-- SETP p, value (R272): through the clamp. -/
def execSetp (p : Param) (value : Int) (s : State) : Host.Outcome State Fault Refusal := .next (paramWrite p value s)

/-- GETP p (R273). -/
def execGetp (p : Param) (s : State) : Host.Outcome State Fault Refusal :=
  .next (respond (sext64 (getParam s.param p)) s)

/-- RDST item (R276). -/
def execRdst (item : Item) (s : State) : Host.Outcome State Fault Refusal := .next (respond (itemVal s item) s)

end Sys2Proof.Machine
end

