-- ==== Sys2Proof/Machine/Quadrature.lean ====
section
/-! DEFINITION. ENC, one encoder reading (spec/45_quadrature.md R241 to R245). -/

namespace Sys2Proof.Machine

/-- Runs the dispatcher once for each set rotation flag (R241, R245). -/
def dispatchRotation (s : State) : State :=
  let s := if s.cw_seen then rotDispatch 1 s else s
  if s.ccw_seen then rotDispatch (-1) s else s

/-- The state after a reading (R241). -/
def encState (ab : BitVec 2) (s : State) : State := clearRotation (dispatchRotation (latchRotation ab s))

/-- ENC (R241). -/
def execEnc (ab : BitVec 2) (s : State) : Host.Outcome State Fault Refusal := .next (encState ab s)

end Sys2Proof.Machine
end

