-- ==== Sys2Proof/Machine/Conditioner.lean ====
section
/-! DEFINITION. The Signal Conditioner (spec/41_conditioner.md R140 to R152). A stage takes its input and the state and
gives its output and the next state. -/

namespace Sys2Proof.Machine

/-- The bias after a tick with the raw sample `raw` (R140). -/
def nextBias (raw : Int) (s : State) : Int :=
  if s.bias_seeded then s.bias.toInt + asr (raw - s.bias.toInt) s.cfg.DC_K else raw

/-- `DC(raw)`: gives the bias-removed value, with the bias just written (R140, R141). -/
def dc (raw : Int) (s : State) : Int × State :=
  let s' := { s with bias := toReg 32 (nextBias raw s), bias_seeded := true }
  (raw - s'.bias.toInt, s')

/-- `HPF(d)`: gives the high-passed value, with the low-pass state just written (R142). -/
def hpf (d : Int) (s : State) : Int × State :=
  let s' := { s with hpf_lp := toReg 64 (s.hpf_lp.toInt + asr ((d - s.hpf_lp.toInt) * s.cfg.HPF_COEFF) 8) }
  (d - s'.hpf_lp.toInt, s')

/-- `SEL(d, hp)` (R143). -/
def sel (c : LegalConfig) (d hp : Int) : Int :=
  match c.HPF_SEL with
  | .filtered => hp
  | .bypass => d

/-- `SCALE(sel)` (R144). -/
def scale (c : LegalConfig) (x : Int) : Int := asr x c.SCALE_SHIFT

/-- The gain after an attack tick (R146). -/
def attackGain (c : LegalConfig) (gain level : Int) : Int :=
  let tgt := 256 - asr (level - c.AGC_THRESH) c.AGC_R
  match c.AGC_ATTACK with
  | .set => max c.AGC_MIN_GAIN tgt
  | .min => max c.AGC_MIN_GAIN (min gain tgt)

/-- The gain after a recovery tick (R147). -/
def recoveryGain (c : LegalConfig) (gain : Int) : Int := min 256 (gain + c.AGC_STEP)

/-- The gain after a tick: attack when the level exceeds the threshold, else recovery (R145 to R147). -/
def nextGain (c : LegalConfig) (gain s_w : Int) : Int :=
  if magnitude s_w > c.AGC_THRESH then attackGain c gain (magnitude s_w) else recoveryGain c gain

/-- The AGC: writes the gain, then applies it in the same tick (R145 to R148). -/
def agc (s_w : Int) (s : State) : Int × State :=
  let s' := { s with agc_gain := toReg 9 (nextGain s.cfg s.agc_gain.toNat s_w) }
  (asr (s_w * s'.agc_gain.toNat) 8, s')

/-- `LIMIT_IN(a)`: the input soft limiter, the negative side the mirror of the positive (R150, R151). -/
def limitIn (c : LegalConfig) (a : Int) : Int :=
  if a > c.LIM_IN_T then c.LIM_IN_T + asr (a - c.LIM_IN_T) 2
  else if a < -c.LIM_IN_T then -(c.LIM_IN_T + asr (-a - c.LIM_IN_T) 2)
  else a

/-- `COND(raw)`: the whole conditioner (R152). -/
def conditioner (raw : Int) (s : State) : Int × State :=
  let d := dc raw s
  let hp := hpf d.1 d.2
  let a := agc (scale s.cfg (sel s.cfg d.1 hp.1)) hp.2
  (limitIn s.cfg a.1, a.2)

end Sys2Proof.Machine
end

