-- ==== Sys2Proof/Machine/Delay.lean ====
section
/-! DEFINITION. The delay stage and the ring write (spec/42_delay.md R171 to R174). -/

namespace Sys2Proof.Machine

/-- The delay mix `(dry * DRY_WEIGHT + delayed * WET_WEIGHT) >> 8` (R173). -/
def delayMix (c : LegalConfig) (dry delayed : Int) : Int := asr (dry * c.DRY_WEIGHT + delayed * c.WET_WEIGHT) 8

/-- `DELAY_STAGE(c, w0, sw)`: the delayed branch only when the effect is enabled and more samples than the length have
been written (R171, R172). -/
def delayStage (c : Int) (w0 sw : Nat) (s : State) : Int :=
  if s.en.delay = true ∧ (sw : Int) > paramVal s .delayLen then delayMix s.cfg c (tap s w0 (paramVal s .delayLen))
  else c

/-- `RING_WRITE(c, w0, sw)`: the last action of every tick (R174). -/
def ringWrite (c : Int) (w0 sw : Nat) (s : State) : State :=
  { bufWrite w0 c s with
    wr_cursor := toReg 32 (((w0 + 1) % s.cfg.BUF_N : Nat) : Int)
    samples_written := toReg 32 ((min (sw + 1) s.cfg.BUF_N : Nat) : Int) }

end Sys2Proof.Machine
end

