-- ==== Sys2Proof/Machine/Effects.lean ====
section
/-! DEFINITION. The effects chain: the reference engines (spec/43_effects.md R198 to R204) and the engines of a supplied
EFFECT_IMPL under the contract of R191 to R195. -/

namespace Sys2Proof.Machine

/-! ## A supplied engine -/

/-- What the engine of effect `e` is shown on a tick (R195): no enable flag but its own (R194). -/
def engineView (e : Effect) (w0 sw : Nat) (s : State) : EngineView where
  cfg := s.cfg
  enabled := getEffect s.en e
  param := s.param
  ch_inc := s.ch_inc
  trem_inc := s.trem_inc
  buf := s.buf
  w0 := w0
  sw := sw

/-- The output of a supplied engine: its input when disabled (R191), else bounded by a function of the configuration
(R192). -/
def suppliedOut (e : Effect) (v : EngineView) (y : Int) (st : EngineState) : Int :=
  if v.enabled then
    clamp (Config.suppliedRun e v y st).1 (-(Config.suppliedBound e v.cfg : Int)) (Config.suppliedBound e v.cfg)
  else y

/-- The next state of a supplied engine. -/
def suppliedNext (e : Effect) (v : EngineView) (y : Int) (st : EngineState) : EngineState :=
  (Config.suppliedRun e v y st).2

/-! ## Chorus -/

/-- The chorus tap distance `off` (R198). -/
def chorusOff (s : State) : Int := paramVal s .chorusLen + asr (tri s.ph_c * s.cfg.CH_SWING) 15

/-- The chorus output under REF (R198). -/
def chorusRefOut (y1 : Int) (w0 sw : Nat) (s : State) : Int :=
  if s.en.chorus = true ∧ (sw : Int) > chorusOff s then asr (y1 + tap s w0 (chorusOff s)) 1 else y1

/-- `CHORUS(y1, w0, sw)`; under REF the phase moves on every tick (R198). -/
def chorus (y1 : Int) (w0 sw : Nat) (s : State) : Int × State :=
  match s.cfg.EFFECT_IMPL with
  | .ref => (chorusRefOut y1 w0 sw s, { s with ph_c := s.ph_c + s.ch_inc })
  | .supplied =>
    let v := engineView .chorus w0 sw s
    (suppliedOut .chorus v y1 s.supplied.chorus,
      { s with supplied := { s.supplied with chorus := suppliedNext .chorus v y1 s.supplied.chorus } })

/-! ## Tremolo -/

/-- The tremolo gain `g` (R200). -/
def tremoloGain (s : State) : Int := 256 - asr (paramVal s .tremDepth * tri s.ph_t) 15

/-- The tremolo output under REF (R200). -/
def tremoloRefOut (y2 : Int) (s : State) : Int := if s.en.tremolo = true then asr (y2 * tremoloGain s) 8 else y2

/-- `TREMOLO(y2)`; under REF the phase moves on every tick (R200). -/
def tremolo (y2 : Int) (w0 sw : Nat) (s : State) : Int × State :=
  match s.cfg.EFFECT_IMPL with
  | .ref => (tremoloRefOut y2 s, { s with ph_t := s.ph_t + s.trem_inc })
  | .supplied =>
    let v := engineView .tremolo w0 sw s
    (suppliedOut .tremolo v y2 s.supplied.tremolo,
      { s with supplied := { s.supplied with tremolo := suppliedNext .tremolo v y2 s.supplied.tremolo } })

/-! ## Bass-boost -/

/-- The bass-boost low-pass state after a tick (R202). -/
def nextLp (y3 : Int) (s : State) : Int := s.lp_b.toInt + asr (y3 - s.lp_b.toInt) s.cfg.BB_SHIFT

/-- The bass-boost output under REF, from the low-pass state just written (R202). -/
def bassRefOut (y3 : Int) (s : State) : Int :=
  if s.en.bass = true then y3 + asr (s.lp_b.toInt * paramVal s .bassGain) 8 else y3

/-- `BASS(y3)`; under REF the low-pass state moves on every tick (R202). -/
def bass (y3 : Int) (w0 sw : Nat) (s : State) : Int × State :=
  match s.cfg.EFFECT_IMPL with
  | .ref =>
    let s' := { s with lp_b := toReg 64 (nextLp y3 s) }
    (bassRefOut y3 s', s')
  | .supplied =>
    let v := engineView .bass w0 sw s
    (suppliedOut .bass v y3 s.supplied.bass,
      { s with supplied := { s.supplied with bass := suppliedNext .bass v y3 s.supplied.bass } })

/-! ## Reverb -/

/-- The mean of the two reverb taps (R204). -/
def reverbTap (w0 : Nat) (s : State) : Int := asr (tap s w0 s.cfg.RV_D1 + tap s w0 s.cfg.RV_D2) 1

/-- The reverb output under REF (R204). -/
def reverbRefOut (y4 : Int) (w0 sw : Nat) (s : State) : Int :=
  if s.en.reverb = true ∧ sw > s.cfg.RV_D2 then
    asr (y4 * (256 - paramVal s .revMix) + reverbTap w0 s * paramVal s .revMix) 8
  else y4

/-- `REVERB(y4, w0, sw)`; the reference engine keeps no state (R204). -/
def reverb (y4 : Int) (w0 sw : Nat) (s : State) : Int × State :=
  match s.cfg.EFFECT_IMPL with
  | .ref => (reverbRefOut y4 w0 sw s, s)
  | .supplied =>
    let v := engineView .reverb w0 sw s
    (suppliedOut .reverb v y4 s.supplied.reverb,
      { s with supplied := { s.supplied with reverb := suppliedNext .reverb v y4 s.supplied.reverb } })

/-- The chain: chorus, tremolo, bass-boost, reverb (R190). -/
def chain (y1 : Int) (w0 sw : Nat) (s : State) : Int × State :=
  let y2 := chorus y1 w0 sw s
  let y3 := tremolo y2.1 w0 sw y2.2
  let y4 := bass y3.1 w0 sw y3.2
  reverb y4.1 w0 sw y4.2

end Sys2Proof.Machine
end

