-- ==== Sys2Proof/Machine/Output.lean ====
section
/-! DEFINITION. The Output Stage (spec/44_output.md R230 to R233). -/

namespace Sys2Proof.Machine

/-- The output hard clip (R230). -/
def hardClip (c : LegalConfig) (y5 : Int) : Int := clamp y5 (-(c.OUT_CLIP : Int)) c.OUT_CLIP

/-- Re-centring (R231). -/
def recentre (c : LegalConfig) (z : Int) : Int := z + (c.OUTPUT_SCALE >>> 1 : Nat)

/-- `OUT(y5)`: clip, re-centre, clamp (R233). -/
def outStage (c : LegalConfig) (y5 : Int) : Int := clamp (recentre c (hardClip c y5)) 0 c.OUTPUT_SCALE

end Sys2Proof.Machine
end

