-- ==== Sys2Proof/Machine/Tick.lean ====
section
/-! DEFINITION. TICK, the sampling tick (spec/40_tick.md R130, R131). -/

namespace Sys2Proof.Machine

/-- tick_count, incremented at the start of the tick, modulo 2^32 (R131, R134). -/
def countTick (s : State) : State := { s with tick_count := s.tick_count + 1 }

/-- Stores the output level and emits it (R131, R233). -/
def putOut (u : Int) (s : State) : State := emitOut (toReg 32 u) { s with out_level := toReg 32 u }

/-- The audio path after the conditioner: the delay stage and the chain, from the conditioned sample `c`, the cursor `w0`
and the fill count `sw` of the tick's start (R131). -/
def audioPath (c : Int) (w0 sw : Nat) (s : State) : Int × State := chain (delayStage c w0 sw s) w0 sw s

/-- The state after a tick (R131, statement for statement). -/
def tickState (raw : Int) (s : State) : State :=
  let c := conditioner raw (countTick s)
  let w0 := s.wr_cursor.toNat
  let sw := s.samples_written.toNat
  let y5 := audioPath c.1 w0 sw c.2
  ringWrite c.1 w0 sw (putOut (outStage s.cfg y5.1) y5.2)

/-- TICK (R130): never refuses once decoded. -/
def execTick (raw : Int) (s : State) : Host.Outcome State Fault Refusal := .next (tickState raw s)

end Sys2Proof.Machine
end

