-- ==== Sys2Proof/Machine/Dispatch.lean ====
section
/-! DEFINITION. One arm per constructor of `Instr`, each one call of its meaning. -/

namespace Sys2Proof.Machine

def exec (i : Instr) (s : State) : Host.Outcome State Fault Refusal :=
  match i with
  | .tick raw => Sys2Proof.Machine.execTick raw s
  | .enc ab => Sys2Proof.Machine.execEnc ab s
  | .btn lv => Sys2Proof.Machine.execBtn lv s
  | .seten e v => Sys2Proof.Machine.execSeten e v s
  | .geten e => Sys2Proof.Machine.execGeten e s
  | .setp p value => Sys2Proof.Machine.execSetp p value s
  | .getp p => Sys2Proof.Machine.execGetp p s
  | .rdst item => Sys2Proof.Machine.execRdst item s

end Sys2Proof.Machine
end

