-- ==== Sys2Proof/Machine/Step.lean ====
section
/-! DEFINITION. One step: the machine takes the next input the environment delivers (spec/00_scope.md R6;
spec/30_encoding.md R101, R112; spec/70_reset_and_hazards.md R313). GAMP-DSP has no program counter and fetches nothing
(spec/10_state.md R31): the events come from outside, in the environment's order. -/

namespace Sys2Proof.Machine

/-- One step. With no input the machine waits; a change of the reset input is taken between events; while reset is
asserted no event is accepted; an event word is decoded, and run or refused. -/
def step (s : State) : Host.Outcome State Fault Refusal :=
  match s.pending with
  | [] => .next s
  | .reset asserted :: rest => .next (setReset asserted (consume rest s))
  | .event W :: rest =>
    if s.reset_asserted then .next (consume rest s)
    else
      match decode W with
      | .event i => exec i (consume rest s)
      | .refusedCmd cmd => .next (refuseCommand cmd (consume rest s))

/-- The state with the event word of a table word as the next input, and the reset input released, so that the very next
step takes it. -/
def State.withFetchWord (s : State) (nbits w : Nat) : State :=
  { s with pending := .event (tableWord nbits w) :: s.pending, reset_asserted := false }

end Sys2Proof.Machine
end

