-- ==== Sys2Proof/Machine/Asm.lean ====
section
/-! DEFINITION. The textual syntax of an event (spec/30_encoding.md R113) and the pseudo-events (R114): one line of text to
the events it stands for. `none` is a line that is not in the syntax; what the syntax leaves open is settled in
notes/assumptions/18.md. -/

namespace Sys2Proof.Asm

/-! ## Words of a line -/

/-- Puts a finished word, held backwards, before the words after it. -/
def flush (word : List Char) (rest : List (List Char)) : List (List Char) :=
  match word with
  | [] => rest
  | c :: cs => (c :: cs).reverse :: rest

/-- The words and commas of a line up to its comment: "Comments start with `;`". `word` is the word being read. DESIGN
CHOICE (notes/assumptions/18.md): R113 writes a blank after a comma and none before it, and does not say whether either is
required; a comma is a word of its own, so blanks around it may be there or not, and a `;` ends the word it touches. -/
def words : List Char → List Char → List (List Char)
  | [], word => flush word []
  | c :: cs, word =>
    if c = ';' then flush word []
    else if c = ' ' ∨ c = '\t' then flush word (words cs [])
    else if c = ',' then flush word ([','] :: words cs [])
    else words cs (c :: word)

/-! ## Numbers -/

/-- The value of a digit below `base`. DESIGN CHOICE (notes/assumptions/18.md): R113 does not say in which case a
hexadecimal digit above 9 is written; both cases stand for it. -/
def digit (base : Nat) (c : Char) : Option Nat :=
  let v :=
    if '0' ≤ c ∧ c ≤ '9' then c.toNat - '0'.toNat
    else if 'A' ≤ c ∧ c ≤ 'F' then c.toNat - 'A'.toNat + 10
    else if 'a' ≤ c ∧ c ≤ 'f' then c.toNat - 'a'.toNat + 10
    else base
  if v < base then some v else none

/-- The number that a sequence of digits continues from `acc`. -/
def number (base : Nat) : List Char → Nat → Option Nat
  | [], acc => some acc
  | c :: cs, acc =>
    match digit base c with
    | some d => number base cs (acc * base + d)
    | none => none

/-- A decimal number: at least one digit. DESIGN CHOICE (notes/assumptions/18.md): R113 does not speak of leading zeros or
of a plus sign; leading zeros are accepted, a plus sign is not. -/
def decimal (cs : List Char) : Option Nat := if cs = [] then none else number 10 cs 0

/-- An integer, if it is one of the 32-bit field (R113: "a decimal integer in [-2^31, 2^31-1]"). -/
def inField (x : Int) : Option Int := if InRawRange x then some x else none

/-- `<int>`: a decimal integer of the field, or hexadecimal `0x` with 8 digits, which are the field's bits. That `-0` is 0,
and that the `<int>` of SETP and IDLE is the one R113 describes for TICK, are DESIGN CHOICES (notes/assumptions/18.md). -/
def integer : List Char → Option Int
  | '0' :: 'x' :: cs =>
    if cs.length = 8 then (number 16 cs 0).map fun n => (BitVec.ofNat 32 n).toInt else none
  | '-' :: cs => (decimal cs).bind fun n => inField (-(n : Int))
  | cs => (decimal cs).bind fun n => inField n

/-- A reading of `w` binary digits, the highest bit first. -/
def bits (w : Nat) (cs : List Char) : Option (BitVec w) :=
  if cs.length = w then (number 2 cs 0).map (BitVec.ofNat w) else none

/-! ## Names -/

/-- `<effect>` (R113). -/
def effect (name : List Char) : Option Effect :=
  if name = "DELAY".toList then some .delay
  else if name = "CHORUS".toList then some .chorus
  else if name = "TREMOLO".toList then some .tremolo
  else if name = "BASS".toList then some .bass
  else if name = "REVERB".toList then some .reverb
  else none

/-- `<param>` (R113). -/
def param (name : List Char) : Option Param :=
  if name = "DELAY_LEN".toList then some .delayLen
  else if name = "CHORUS_LEN".toList then some .chorusLen
  else if name = "CHORUS_RATE".toList then some .chorusRate
  else if name = "TREM_RATE".toList then some .tremRate
  else if name = "TREM_DEPTH".toList then some .tremDepth
  else if name = "BASS_GAIN".toList then some .bassGain
  else if name = "REV_MIX".toList then some .revMix
  else none

/-- `<item>`: a name of R276's table. R276 writes it in small letters and R115's example in capitals. DESIGN CHOICE
(notes/assumptions/18.md): the case of a letter is not looked at, so a mix of cases is that name too. -/
def item (name : List Char) : Option Item :=
  let name := name.map Char.toUpper
  if name = "BIAS".toList then some .bias
  else if name = "BIAS_SEEDED".toList then some .biasSeeded
  else if name = "HPF_LP".toList then some .hpfLp
  else if name = "AGC_GAIN".toList then some .agcGain
  else if name = "WR_CURSOR".toList then some .wrCursor
  else if name = "SAMPLES_WRITTEN".toList then some .samplesWritten
  else if name = "TICK_COUNT".toList then some .tickCount
  else if name = "OUT_LEVEL".toList then some .outLevel
  else if name = "ENC_PREV".toList then some .encPrev
  else if name = "LAST_ANY".toList then some .lastAny
  else if name = "ANY_ACCEPTED".toList then some .anyAccepted
  else if name = "BTN_PREV".toList then some .btnPrev
  else if name = "PH_C".toList then some .phC
  else if name = "PH_T".toList then some .phT
  else if name = "LP_B".toList then some .lpB
  else if name = "TREM_INC".toList then some .tremInc
  else none

/-- `<0|1>` (R113). -/
def flag (cs : List Char) : Option Bool :=
  if cs = ['0'] then some false else if cs = ['1'] then some true else none

/-! ## Lines -/

/-- A line with one operand (R113, R114). -/
def event1 (op a : List Char) : Option (List Instr) :=
  if op = "TICK".toList then (integer a).map fun x => [.tick x]
  else if op = "ENC".toList then (bits 2 a).map fun x => [.enc x]
  else if op = "BTN".toList then (bits 6 a).map fun x => [.btn x]
  else if op = "GETEN".toList then (effect a).map fun e => [.geten e]
  else if op = "GETP".toList then (param a).map fun p => [.getp p]
  else if op = "RDST".toList then (item a).map fun n => [.rdst n]
  else if op = "PRESS".toList then (effect a).map fun e => (Pseudo.press e).expand
  else none

/-- A line with two operands (R113, R114). DESIGN CHOICE (notes/assumptions/18.md): R114 gives no form for the `<n>` of
IDLE; it is an unsigned decimal number of any size, never hexadecimal, and 0 stands for no event. -/
def event2 (op a b : List Char) : Option (List Instr) :=
  if op = "SETEN".toList then (effect a).bind fun e => (flag b).map fun v => [.seten e v]
  else if op = "SETP".toList then (param a).bind fun p => (integer b).map fun x => [.setp p x]
  else if op = "IDLE".toList then (decimal a).bind fun n => (integer b).map fun x => (Pseudo.idle n x).expand
  else none

/-- A line with no operand (R114). -/
def event0 (op : List Char) : Option (List Instr) :=
  if op = "ROTCW".toList then some Pseudo.rotcw.expand
  else if op = "ROTCCW".toList then some Pseudo.rotccw.expand
  else none

/-- The events of a line (R113, R114); an empty line has none. -/
def line (text : List Char) : Option (List Instr) :=
  match words text [] with
  | [] => some []
  | [op] => event0 op
  | [op, a] => event1 op a
  | [op, a, comma, b] => if comma = [','] then event2 op a b else none
  | _ => none

/-- The event words of a line. -/
def assemble (text : String) : Option (List EventWord) := (line text.toList).map (List.map encode)

end Sys2Proof.Asm
end

