-- ==== Sys2Proof/Safety.lean ====
section
/-! DEFINITION. The terms claims are made in: which groups of fields an event leaves alone (spec/10_state.md R32), the
event-local values of a tick read back from the registers it wrote, runs of events, and the invariant of the machine. -/

namespace Sys2Proof.Machine

/-! ## Frames, group by group (R32) -/

/-- The conditioner's registers are the same. -/
abbrev KeepsConditioner (s t : State) : Prop :=
  t.bias = s.bias ∧ t.bias_seeded = s.bias_seeded ∧ t.hpf_lp = s.hpf_lp ∧ t.agc_gain = s.agc_gain

/-- Every ring slot reads as before, and the cursor and the fill count are the same. -/
abbrev KeepsRing (s t : State) : Prop :=
  (∀ i, Memory.read t.buf i = Memory.read s.buf i) ∧ t.wr_cursor = s.wr_cursor ∧
  t.samples_written = s.samples_written

/-- The timebase and the output register are the same. -/
abbrev KeepsTimeAndOutput (s t : State) : Prop := t.tick_count = s.tick_count ∧ t.out_level = s.out_level

/-- The effect engines' states are the same. -/
abbrev KeepsEngines (s t : State) : Prop :=
  t.ph_c = s.ph_c ∧ t.ph_t = s.ph_t ∧ t.lp_b = s.lp_b ∧ t.supplied = s.supplied

/-- All that only TICK writes is the same. -/
abbrev KeepsAudio (s t : State) : Prop :=
  KeepsConditioner s t ∧ KeepsRing s t ∧ KeepsTimeAndOutput s t ∧ KeepsEngines s t

/-- The parameters and their cached increments are the same. -/
abbrev KeepsParams (s t : State) : Prop := t.param = s.param ∧ t.ch_inc = s.ch_inc ∧ t.trem_inc = s.trem_inc

/-- The Parameter Store is the same. -/
abbrev KeepsStore (s t : State) : Prop := t.en = s.en ∧ KeepsParams s t

/-- The quadrature state is the same. -/
abbrev KeepsQuadrature (s t : State) : Prop :=
  t.enc_prev = s.enc_prev ∧ t.cw_seen = s.cw_seen ∧ t.ccw_seen = s.ccw_seen

/-- The debounce state but for the last reading is the same. -/
abbrev KeepsPresses (s t : State) : Prop :=
  t.last_btn = s.last_btn ∧ t.last_any = s.last_any ∧ t.any_accepted = s.any_accepted

/-- The debounce state is the same. -/
abbrev KeepsDebounce (s t : State) : Prop := t.btn_prev = s.btn_prev ∧ KeepsPresses s t

/-- The refused mark, the configuration and the inputs are the same. -/
abbrev KeepsRest (s t : State) : Prop :=
  t.refused = s.refused ∧ t.cfg = s.cfg ∧ t.pending = s.pending ∧ t.reset_asserted = s.reset_asserted

/-- Nothing was emitted. -/
abbrev KeepsPorts (s t : State) : Prop := t.outputs = s.outputs ∧ t.responses = s.responses

/-! ## The values of one tick, read back from the registers it wrote

`t` is the state after the tick. Shifts are written as floor divisions, as spec/00_scope.md R12 has them. -/

/-- The bias-removed value (spec/41_conditioner.md R141). -/
def biasRemoved (t : State) (raw : Int) : Int := raw - t.bias.toInt

/-- The high-passed value (R142). -/
def highPassed (t : State) (raw : Int) : Int := biasRemoved t raw - t.hpf_lp.toInt

/-- The scaled sample (R143, R144). -/
def scaledSample (t : State) (raw : Int) : Int :=
  (if t.cfg.HPF_SEL = .filtered then highPassed t raw else biasRemoved t raw) / 2 ^ t.cfg.SCALE_SHIFT

/-- The AGC's output (R148). -/
def agcOut (t : State) (raw : Int) : Int := scaledSample t raw * t.agc_gain.toNat / 2 ^ 8

/-- The conditioned sample (R150 to R152). -/
def conditionedSample (t : State) (raw : Int) : Int :=
  if agcOut t raw > t.cfg.LIM_IN_T then t.cfg.LIM_IN_T + (agcOut t raw - t.cfg.LIM_IN_T) / 4
  else if agcOut t raw < -t.cfg.LIM_IN_T then -(t.cfg.LIM_IN_T + (-agcOut t raw - t.cfg.LIM_IN_T) / 4)
  else agcOut t raw

/-- The level the AGC tests (R145). -/
def level (t : State) (raw : Int) : Int := |scaledSample t raw|

/-! ## Runs -/

/-- The events one after another, each on the state the one before left (spec/70_reset_and_hazards.md R327). -/
def runEvents : List Instr → State → Host.Outcome State Fault Refusal
  | [], s => .next s
  | i :: is, s =>
    match exec i s with
    | .next t => runEvents is t
    | .fault f => .fault f
    | .refused r => .refused r

/-- The conditioned samples of a run's ticks, the newest first (spec/42_delay.md R175: c_0, c_1, ...), after those of
`h`. -/
def conditionedRun : List Instr → State → List Int → List Int
  | [], _, h => h
  | i :: is, s, h =>
    match i, exec i s with
    | .tick raw, .next t => conditionedRun is t (conditionedSample t raw :: h)
    | _, .next t => conditionedRun is t h
    | _, _ => h

/-- The ring holds the history `h` (newest first): the cursor and the fill count are those of `h.length` writes, and the
slot `d` behind the cursor holds the sample of `d` ticks before (R175). -/
structure RingHolds (h : List Int) (s : State) : Prop where
  cursor : s.wr_cursor.toNat = h.length % s.cfg.BUF_N
  count : s.samples_written.toNat = min h.length s.cfg.BUF_N
  taps : ∀ d, 1 ≤ d → d ≤ s.cfg.BUF_N - 1 → d ≤ h.length → h[d - 1]? = some (tap s s.wr_cursor.toNat d)

/-! ## The chain's engines by name -/

/-- The engine of an effect as it stands in the chain; the delay is no engine of the chain, so its entry passes the sample
on (spec/43_effects.md R190). -/
def engineOf (e : Effect) (y : Int) (w0 sw : Nat) (s : State) : Int × State :=
  match e with
  | .delay => (y, s)
  | .chorus => chorus y w0 sw s
  | .tremolo => tremolo y w0 sw s
  | .bass => bass y w0 sw s
  | .reverb => reverb y w0 sw s

/-! ## The invariant -/

/-- What holds of every state between events, under the names of the rules that say so. -/
structure Inv (s : State) : Prop where
  /-- The ring's list is in canonical form, and names slots of the ring only (R80). -/
  ring_wf : Memory.wf s.buf
  ring_slots : ∀ x ∈ s.buf, x.1 < s.cfg.BUF_N
  /-- Every entry is a conditioned sample's value (R156). -/
  ring_bound : ∀ i, |(Memory.read s.buf i).toInt| ≤ 2 ^ 31 - 1
  /-- R38, R39. -/
  cursor_lt : s.wr_cursor.toNat < s.cfg.BUF_N
  count_le : s.samples_written.toNat ≤ s.cfg.BUF_N
  /-- Before the first wrap the cursor counts the writes, and slots not yet written hold 0 (R177). -/
  warm : s.samples_written.toNat < s.cfg.BUF_N → s.wr_cursor = s.samples_written
  unwritten : ∀ i, s.samples_written.toNat ≤ i → i < s.cfg.BUF_N → Memory.read s.buf i = 0
  /-- R34: seeded from the first tick on. -/
  seeded : s.bias_seeded = true ↔ s.samples_written ≠ 0
  /-- R35, R156. -/
  hpf_bound : |s.hpf_lp.toInt| ≤ 2 ^ 32 - 1
  /-- R149. -/
  gain_ge : s.cfg.AGC_MIN_GAIN ≤ s.agc_gain.toNat
  gain_le : s.agc_gain.toNat ≤ 256
  /-- R48, R207. -/
  lp_bound : |s.lp_b.toInt| ≤ 2 ^ 31 - 1
  /-- R263. -/
  params : ∀ p, (rangeOf s p).MIN ≤ paramVal s p ∧ paramVal s p ≤ (rangeOf s p).MAX
  chorus_inc : s.ch_inc = inc s.cfg.RATE_DIV (paramVal s .chorusRate)
  tremolo_inc : s.trem_inc = inc s.cfg.RATE_DIV (paramVal s .tremRate)
  /-- R42, R234. -/
  out_le : s.out_level.toNat ≤ s.cfg.OUTPUT_SCALE
  /-- R49: between events both rotation flags are 0. -/
  no_rotation : s.cw_seen = false ∧ s.ccw_seen = false

end Sys2Proof.Machine
end

