-- ==== Sys2Proof/Certificates/Slice0/Obligations.lean ====
section
/-! DEFINITION. The statements for the provers, in the order of spec/. Each docstring names the rule it formalises; a
clause that rests on the model's own choice names its log entry. -/

open Sys2Proof Sys2Proof.Machine

/-! ## Encoding (spec/30_encoding.md) -/

/-- R115's examples, and the refused one; then the numbers of the effects (R43), the parameters (R45) and the RDST items
(R276), each in its command values (R108), written out. -/
def Obligations.SpecWordsDecode : Prop :=
  decode 0x00FFFFFFFF = .event (.tick (-1)) ∧ decode 0x0000000064 = .event (.tick 100) ∧
  decode 0x1000000001 = .event (.enc 0b01) ∧ decode 0x2000000004 = .event (.btn 0b000100) ∧
  decode 0x3400000001 = .event (.seten .reverb true) ∧ decode 0x4100000000 = .event (.geten .chorus) ∧
  decode 0x50000003E8 = .event (.setp .delayLen 1000) ∧ decode 0x54FFFFFFFB = .event (.setp .tremDepth (-5)) ∧
  decode 0x6600000000 = .event (.getp .revMix) ∧ decode 0x7300000000 = .event (.rdst .agcGain) ∧
  decode 0x3500000001 = .refusedCmd 0x35 ∧
  [0x30, 0x31, 0x32, 0x33, 0x34].map (fun cmd => decode (EventWord.make cmd 1)) =
    [.delay, .chorus, .tremolo, .bass, .reverb].map (fun e => .event (.seten e true)) ∧
  [0x40, 0x41, 0x42, 0x43, 0x44].map (fun cmd => decode (EventWord.make cmd 0)) =
    [.delay, .chorus, .tremolo, .bass, .reverb].map (fun e => .event (.geten e)) ∧
  [0x50, 0x51, 0x52, 0x53, 0x54, 0x55, 0x56].map (fun cmd => decode (EventWord.make cmd 7)) =
    [.delayLen, .chorusLen, .chorusRate, .tremRate, .tremDepth, .bassGain, .revMix].map (fun p => .event (.setp p 7)) ∧
  [0x60, 0x61, 0x62, 0x63, 0x64, 0x65, 0x66].map (fun cmd => decode (EventWord.make cmd 0)) =
    [.delayLen, .chorusLen, .chorusRate, .tremRate, .tremDepth, .bassGain, .revMix].map (fun p => .event (.getp p)) ∧
  [0x70, 0x71, 0x72, 0x73, 0x74, 0x75, 0x76, 0x77].map (fun cmd => decode (EventWord.make cmd 0)) =
    [.bias, .biasSeeded, .hpfLp, .agcGain, .wrCursor, .samplesWritten, .tickCount, .outLevel].map
      (fun n => .event (.rdst n)) ∧
  [0x78, 0x79, 0x7A, 0x7B, 0x7C, 0x7D, 0x7E, 0x7F].map (fun cmd => decode (EventWord.make cmd 0)) =
    [.encPrev, .lastAny, .anyAccepted, .btnPrev, .phC, .phT, .lpB, .tremInc].map (fun n => .event (.rdst n))

/-- R102, R103, R108, R112: every event of every operand is read back from its word. -/
def Obligations.DecodeOfEncodeIsTheEvent : Prop := ∀ i : Instr, i.wf = true → decode (encode i) = .event i

/-- R102, R105: the word of a decoded event is the word itself, its ignored bits 0; and the event is well formed. -/
def Obligations.EncodeOfDecodeIsTheWordsUsedBits : Prop :=
  ∀ (W : EventWord) (i : Instr), decode W = .event i → encode i = W &&& usedBits W.cmd ∧ i.wf = true

/-- R105 with the formats of R102: two words of one command that agree on the bits the format names decode alike. -/
def Obligations.IgnoredBitsCarryNoMeaning : Prop :=
  ∀ d d' : BitVec 32,
    (d.extractLsb' 0 2 = d'.extractLsb' 0 2 → decode (EventWord.make 0x10 d) = decode (EventWord.make 0x10 d') ∧
      ∃ ab, decode (EventWord.make 0x10 d) = .event (.enc ab)) ∧
    (d.extractLsb' 0 6 = d'.extractLsb' 0 6 → decode (EventWord.make 0x20 d) = decode (EventWord.make 0x20 d') ∧
      ∃ lv, decode (EventWord.make 0x20 d) = .event (.btn lv)) ∧
    (∀ e : Effect, d.getLsbD 0 = d'.getLsbD 0 →
      decode (EventWord.make (0b00110#5 ++ e.id) d) = decode (EventWord.make (0b00110#5 ++ e.id) d') ∧
      ∃ v, decode (EventWord.make (0b00110#5 ++ e.id) d) = .event (.seten e v)) ∧
    (∀ e : Effect, decode (EventWord.make (0b01000#5 ++ e.id) d) = .event (.geten e)) ∧
    (∀ p : Param, decode (EventWord.make (0b0110#4 ++ p.id) d) = .event (.getp p)) ∧
    (∀ n : BitVec 4, decode (EventWord.make (0b0111#4 ++ n) d) = .event (.rdst (Item.ofId n)))

/-- R109, R112: exactly the reserved command values are refused, whatever the data, under their own value. -/
def Obligations.ReservedCommandsDecodeToTheRefusal : Prop :=
  ∀ W : EventWord, decode W = .refusedCmd W.cmd ↔
    (0x01 ≤ W.cmd.toNat ∧ W.cmd.toNat ≤ 0x0F) ∨ (0x11 ≤ W.cmd.toNat ∧ W.cmd.toNat ≤ 0x1F) ∨
    (0x21 ≤ W.cmd.toNat ∧ W.cmd.toNat ≤ 0x2F) ∨ (0x35 ≤ W.cmd.toNat ∧ W.cmd.toNat ≤ 0x3F) ∨
    (0x45 ≤ W.cmd.toNat ∧ W.cmd.toNat ≤ 0x4F) ∨ (0x57 ≤ W.cmd.toNat ∧ W.cmd.toNat ≤ 0x5F) ∨
    (0x67 ≤ W.cmd.toNat ∧ W.cmd.toNat ≤ 0x6F) ∨ 0x80 ≤ W.cmd.toNat

/-- The decoder is the opcode table: an event's word matches a row of its mnemonic, a refused word none, and no word
matches two rows. -/
def Obligations.DecoderAgreesWithTheOpcodeTable : Prop :=
  (∀ (W : EventWord) (i : Instr), decode W = .event i →
    ∃ r ∈ opcodeTable, r.Matches W ∧ r.mnemonic = i.mnemonic) ∧
  (∀ (W : EventWord) (cmd : BitVec 8), decode W = .refusedCmd cmd → cmd = W.cmd ∧ ∀ r ∈ opcodeTable, ¬ r.Matches W) ∧
  (∀ (W : EventWord), ∀ r ∈ opcodeTable, ∀ r' ∈ opcodeTable, r.Matches W → r'.Matches W → r = r')

/-- R113: whatever a line of text stands for is a sequence of events of the block (the syntax's open points: log entry
18). -/
def Obligations.AssembledEventsAreWellFormed : Prop :=
  ∀ (text : List Char) (is : List Instr), Asm.line text = some is → ∀ i ∈ is, i.wf = true

/-! ## Steps, refusals, reset (spec/00_scope.md, spec/60_exceptions.md, spec/70_reset_and_hazards.md) -/

/-- A step takes the first input away and runs the decoded event; the input list is the model's (log entry 3). -/
def Obligations.StepRunsTheDecodedEvent : Prop :=
  ∀ (s : State) (W : EventWord) (rest : List Input) (i : Instr),
    s.pending = .event W :: rest → s.reset_asserted = false → decode W = .event i →
    step s = exec i { s with pending := rest }

/-- R291: a word with a reserved command value sets the mark and has no other effect. -/
def Obligations.ReservedCommandOnlySetsTheRefusedMark : Prop :=
  ∀ (s : State) (W : EventWord) (rest : List Input),
    s.pending = .event W :: rest → s.reset_asserted = false →
    (∀ i, encode i &&& 0xFF00000000 ≠ W &&& 0xFF00000000) →
    step s = .next { s with pending := rest, refused := true }

/-- R294, R295: the outcome is decided by the command byte alone, its code is 1 exactly where the event is refused, and a
SETP is OK whatever its value. -/
def Obligations.OutcomeIsDecidedByTheCommandByte : Prop :=
  (∀ W W' : EventWord, W.cmd = W'.cmd → eventOutcome W = eventOutcome W') ∧
  (∀ W : EventWord, (eventOutcome W).code = 1 ↔ ∃ cmd, decode W = .refusedCmd cmd) ∧
  (∀ W : EventWord, (eventOutcome W).code = 0 ↔ ∃ i, decode W = .event i) ∧
  (∀ (p : Param) (v : Int), eventOutcome (encode (.setp p v)) = .ok)

/-- R290, R294: nothing stops the machine, whatever the state and the input, and no event's rule fails. -/
def Obligations.NothingStopsTheMachine : Prop :=
  (∀ s : State, ∃ t, step s = .next t) ∧ (∀ (i : Instr) (s : State), ∃ t, exec i s = .next t)

/-- R313: asserting reset puts every field in its reset value and emits nothing; while it is asserted an event word has
no effect (that the word is then gone is the model's choice, log entry 5); releasing it changes nothing else. -/
def Obligations.ResetInputActsBetweenEvents : Prop :=
  ∀ (s : State) (rest : List Input),
    (s.pending = .reset true :: rest → step s = .next { State.resetWith s.cfg with
      pending := rest, reset_asserted := true, outputs := s.outputs, responses := s.responses }) ∧
    (s.pending = .reset false :: rest → step s = .next { s with pending := rest, reset_asserted := false }) ∧
    (∀ W, s.pending = .event W :: rest → s.reset_asserted = true → step s = .next { s with pending := rest })

/-- R310: the table of reset values. -/
def Obligations.ResetValues : Prop :=
  ∀ c : LegalConfig,
    let s := State.resetWith c
    s.bias.toInt = 0 ∧ s.bias_seeded = false ∧ s.hpf_lp.toInt = 0 ∧ s.agc_gain.toNat = 256 ∧
    (∀ i, (Memory.read s.buf i).toInt = 0) ∧ s.wr_cursor.toNat = 0 ∧ s.samples_written.toNat = 0 ∧
    s.tick_count.toNat = 0 ∧ s.out_level.toNat = c.OUTPUT_SCALE / 2 ∧
    (∀ e, getEffect s.en e = false) ∧ (∀ p, paramVal s p = (rangeOf s p).INIT) ∧
    (s.ch_inc.toNat : Int) = c.range.chorusRate.INIT * 2 ^ 32 / c.RATE_DIV ∧
    (s.trem_inc.toNat : Int) = c.range.tremRate.INIT * 2 ^ 32 / c.RATE_DIV ∧
    s.ph_c.toNat = 0 ∧ s.ph_t.toNat = 0 ∧ s.lp_b.toInt = 0 ∧ s.enc_prev = 0b00 ∧ s.cw_seen = false ∧
    s.ccw_seen = false ∧ s.btn_prev = 0b000000 ∧ (∀ e, (getEffect s.last_btn e).toNat = 0) ∧ s.last_any.toNat = 0 ∧
    s.any_accepted = false ∧ s.refused = false

/-- R292: an illegal configuration has no machine, and a legal one has the machine in its reset state. -/
def Obligations.IllegalConfigurationHasNoMachine : Prop :=
  ∀ c : Config, (¬ (c.RangesLegal ∧ c.RelationsLegal) → construct c = .configIllegal) ∧
    (∀ h : c.isLegal = true, construct c = .machine (State.resetWith ⟨c, h⟩))

/-- R8, R173: the machine after reset has the values the source fixes (92_eei_decisions.md, end: "Fixed by the source and
not open"); R52, R312: no step writes the configuration, a reset included. -/
def Obligations.NoStepWritesTheConfiguration : Prop :=
  (State.reset.cfg.DC_K = 10 ∧ State.reset.cfg.SCALE_SHIFT = 15 ∧ State.reset.cfg.DRY_WEIGHT = 62 ∧
    State.reset.cfg.WET_WEIGHT = 192) ∧
  ∀ s t : State, step s = .next t → t.cfg = s.cfg

/-- R32, R275, R301: each group of fields is written by its own kinds of event only. -/
def Obligations.FieldsAreWrittenByTheirOwnersOnly : Prop :=
  ∀ (i : Instr) (s t : State), exec i s = .next t →
    ((∃ raw, i = .tick raw) ∨ KeepsAudio s t) ∧
    ((∃ ab, i = .enc ab) ∨ KeepsQuadrature s t) ∧
    ((∃ lv, i = .btn lv) ∨ KeepsDebounce s t) ∧
    ((∃ ab, i = .enc ab) ∨ (∃ p v, i = .setp p v) ∨ KeepsParams s t) ∧
    ((∃ lv, i = .btn lv) ∨ (∃ e v, i = .seten e v) ∨ t.en = s.en) ∧
    ((∃ raw, i = .tick raw) ∨ t.outputs = s.outputs) ∧
    ((∃ e, i = .geten e) ∨ (∃ p, i = .getp p) ∨ (∃ n, i = .rdst n) ∨ t.responses = s.responses) ∧
    KeepsRest s t

/-! ## The conditioner (spec/41_conditioner.md) -/

/-- R140, R141: the bias after a tick, in every state. -/
def Obligations.TickUpdatesTheBias : Prop :=
  ∀ (raw : Int) (s : State), InRawRange raw → ∃ t, exec (.tick raw) s = .next t ∧ t.bias_seeded = true ∧
    (s.bias_seeded = false → t.bias.toInt = raw) ∧
    (s.bias_seeded = true → t.bias.toInt = s.bias.toInt + (raw - s.bias.toInt) / 2 ^ s.cfg.DC_K)

/-- R155: one tick keeps the bias between bounds that hold of it and of the sample; so after any run from reset with at
least one tick it lies between bounds of the samples seen. -/
def Obligations.BiasStaysBetweenTheSamples : Prop :=
  (∀ (lo hi raw : Int) (s t : State), InRawRange raw → lo ≤ raw → raw ≤ hi →
    (s.bias_seeded = true → lo ≤ s.bias.toInt ∧ s.bias.toInt ≤ hi) → exec (.tick raw) s = .next t →
    lo ≤ t.bias.toInt ∧ t.bias.toInt ≤ hi) ∧
  (∀ (c : LegalConfig) (is : List Instr) (t : State) (lo hi : Int), (∀ i ∈ is, i.wf = true) →
    (∃ raw, .tick raw ∈ is) → (∀ raw, .tick raw ∈ is → lo ≤ raw ∧ raw ≤ hi) →
    runEvents is (State.resetWith c) = .next t → lo ≤ t.bias.toInt ∧ t.bias.toInt ≤ hi)

/-- R153, one tick of a constant input: a bias above it falls by at least 1 and not below it, a bias at it stays, a bias
below it rises by the shifted difference, not above it, and moves exactly when the difference is at least 2^DC_K. -/
def Obligations.BiasConvergesToAConstantInput : Prop :=
  ∀ (r : Int) (s t : State), InRawRange r → s.bias_seeded = true → exec (.tick r) s = .next t →
    (s.bias.toInt > r → t.bias.toInt ≤ s.bias.toInt - 1 ∧ r ≤ t.bias.toInt) ∧
    (s.bias.toInt = r → t.bias.toInt = r) ∧
    (s.bias.toInt < r → t.bias.toInt ≤ r ∧ t.bias.toInt = s.bias.toInt + (r - s.bias.toInt) / 2 ^ s.cfg.DC_K ∧
      (t.bias = s.bias ↔ r - s.bias.toInt < 2 ^ s.cfg.DC_K))

/-- R142: the low-pass state after a tick, in every state. -/
def Obligations.TickUpdatesTheHighPassState : Prop :=
  ∀ (raw : Int) (s : State), InRawRange raw → ∃ t, exec (.tick raw) s = .next t ∧
    t.hpf_lp.toInt = s.hpf_lp.toInt + (biasRemoved t raw - s.hpf_lp.toInt) * s.cfg.HPF_COEFF / 2 ^ 8

/-- R145 to R147: the gain after a tick, in every state. -/
def Obligations.TickUpdatesTheGain : Prop :=
  ∀ (raw : Int) (s : State), ∃ t, exec (.tick raw) s = .next t ∧
    (level t raw > s.cfg.AGC_THRESH → s.cfg.AGC_ATTACK = .set → (t.agc_gain.toNat : Int) =
      max (s.cfg.AGC_MIN_GAIN : Int) (256 - (level t raw - s.cfg.AGC_THRESH) / 2 ^ s.cfg.AGC_R)) ∧
    (level t raw > s.cfg.AGC_THRESH → s.cfg.AGC_ATTACK = .min → (t.agc_gain.toNat : Int) =
      max (s.cfg.AGC_MIN_GAIN : Int) (min (s.agc_gain.toNat : Int) (256 - (level t raw - s.cfg.AGC_THRESH) / 2 ^ s.cfg.AGC_R))) ∧
    (level t raw ≤ s.cfg.AGC_THRESH → t.agc_gain.toNat = min 256 (s.agc_gain.toNat + s.cfg.AGC_STEP))

/-- R149, R154: (a) recovery by exactly the step up to 256, (b) the MIN law, (c) the SET law over two ticks that follow
each other, a gain that rises in the attack with a falling excess, (d) the range after every tick. -/
def Obligations.GainAttackAndRecovery : Prop :=
  ∀ (raw raw' : Int) (s t u : State), s.cfg.AGC_MIN_GAIN ≤ s.agc_gain.toNat → s.agc_gain.toNat ≤ 256 →
    exec (.tick raw) s = .next t → exec (.tick raw') t = .next u →
    (level t raw ≤ s.cfg.AGC_THRESH → s.agc_gain.toNat + s.cfg.AGC_STEP ≤ 256 →
      t.agc_gain.toNat = s.agc_gain.toNat + s.cfg.AGC_STEP) ∧
    (level t raw ≤ s.cfg.AGC_THRESH → s.agc_gain.toNat + s.cfg.AGC_STEP > 256 → t.agc_gain.toNat = 256) ∧
    (level t raw > s.cfg.AGC_THRESH → s.cfg.AGC_ATTACK = .min → t.agc_gain.toNat ≤ s.agc_gain.toNat) ∧
    (level t raw > s.cfg.AGC_THRESH → level u raw' > s.cfg.AGC_THRESH → s.cfg.AGC_ATTACK = .set →
      level t raw ≤ level u raw' → u.agc_gain.toNat ≤ t.agc_gain.toNat) ∧
    (level t raw > s.cfg.AGC_THRESH → level u raw' > s.cfg.AGC_THRESH → s.cfg.AGC_ATTACK = .set →
      level u raw' < level t raw → t.agc_gain.toNat ≤ u.agc_gain.toNat) ∧
    s.cfg.AGC_MIN_GAIN ≤ t.agc_gain.toNat ∧ t.agc_gain.toNat ≤ 256

/-- R150, R151 and the magnitudes of R157: the soft limiter. -/
def Obligations.SoftLimiterCompressesBeyondItsThreshold : Prop :=
  ∀ (c : LegalConfig) (a : Int),
    (|a| ≤ c.LIM_IN_T → limitIn c a = a) ∧
    (a > c.LIM_IN_T → limitIn c a = c.LIM_IN_T + (a - c.LIM_IN_T) / 4 ∧ c.LIM_IN_T ≤ limitIn c a ∧ limitIn c a < a) ∧
    (a < -c.LIM_IN_T → limitIn c a = -(c.LIM_IN_T + (-a - c.LIM_IN_T) / 4) ∧
      limitIn c a = -limitIn c (-a) ∧ c.LIM_IN_T ≤ -limitIn c a ∧ -limitIn c a < -a) ∧
    (a > c.LIM_IN_T + 3 → limitIn c (limitIn c a) < limitIn c a)

/-- R156: the bounds of every value of the conditioner, so that no 64-bit or 32-bit register narrows one. -/
def Obligations.ConditionerValuesFitTheirRegisters : Prop :=
  ∀ (raw : Int) (s t : State), InRawRange raw → |s.hpf_lp.toInt| ≤ 2 ^ 32 - 1 → exec (.tick raw) s = .next t →
    |biasRemoved t raw| ≤ 2 ^ 32 - 1 ∧ |t.hpf_lp.toInt| ≤ 2 ^ 32 - 1 ∧ |highPassed t raw| ≤ 2 ^ 33 - 2 ∧
    |(biasRemoved t raw - s.hpf_lp.toInt) * s.cfg.HPF_COEFF| ≤ 2 ^ 41 ∧
    -2 ^ 30 ≤ scaledSample t raw ∧ scaledSample t raw ≤ 2 ^ 30 - 1 ∧
    |scaledSample t raw * t.agc_gain.toNat| ≤ 2 ^ 38 ∧ -2 ^ 30 ≤ agcOut t raw ∧ agcOut t raw ≤ 2 ^ 30 ∧
    |conditionedSample t raw| ≤ max (s.cfg.LIM_IN_T : Int) (2 ^ 30) ∧
    |conditionedSample t raw| ≤ 2 ^ 31 - 1

/-! ## The delay ring (spec/42_delay.md, spec/20_memory.md) -/

/-- R133, R152, R174, R83: the conditioned sample, and no later value of the chain, enters the slot at the cursor; every
other slot reads as before; the cursor and the fill count advance. -/
def Obligations.TickWritesTheConditionedSample : Prop :=
  ∀ (raw : Int) (s : State), InRawRange raw → |s.hpf_lp.toInt| ≤ 2 ^ 32 - 1 → s.wr_cursor.toNat < s.cfg.BUF_N →
    Memory.wf s.buf → ∃ t, exec (.tick raw) s = .next t ∧
      (Memory.read t.buf s.wr_cursor.toNat).toInt = conditionedSample t raw ∧
      (∀ i, i ≠ s.wr_cursor.toNat → Memory.read t.buf i = Memory.read s.buf i) ∧
      t.wr_cursor.toNat = (s.wr_cursor.toNat + 1) % s.cfg.BUF_N ∧
      t.samples_written.toNat = min (s.samples_written.toNat + 1) s.cfg.BUF_N

/-- R170: the slot read is in the ring, `dist` behind the cursor, and never the slot this tick writes. -/
def Obligations.ReadSlotIsNeverTheWrittenSlot : Prop :=
  ∀ (N w0 dist : Nat), w0 < N → 1 ≤ dist → dist ≤ N - 1 →
    rslot N w0 dist < N ∧ rslot N w0 dist ≠ w0 ∧ (rslot N w0 dist + dist) % N = w0

/-- R171 to R173: the dry signal until more samples than the length are written, then the mix with the entry that many
ticks back. -/
def Obligations.DelayStageMixesOnlyWhenWarm : Prop :=
  ∀ (c : Int) (w0 sw : Nat) (s : State) (len : Nat), paramVal s .delayLen = len → 1 ≤ len → len ≤ s.cfg.BUF_N - 1 →
    w0 < s.cfg.BUF_N →
    (s.en.delay = false → delayStage c w0 sw s = c) ∧ (sw ≤ len → delayStage c w0 sw s = c) ∧
    (s.en.delay = true → sw > len → delayStage c w0 sw s =
      (c * s.cfg.DRY_WEIGHT +
        (Memory.read s.buf (if len ≤ w0 then w0 - len else w0 + s.cfg.BUF_N - len)).toInt * s.cfg.WET_WEIGHT) / 2 ^ 8)

/-- R177, R316: with more writes than the distance, the slot behind the cursor has been written since reset; a slot that
has not been written holds 0. -/
def Obligations.GuardKeepsStaleSlotsUnread : Prop :=
  ∀ (s : State) (d : Nat), Inv s → 1 ≤ d → d ≤ s.cfg.BUF_N - 1 → d < s.samples_written.toNat →
    rslot s.cfg.BUF_N s.wr_cursor.toNat d < s.samples_written.toNat ∧
    (∀ i, s.samples_written.toNat ≤ i → i < s.cfg.BUF_N → Memory.read s.buf i = 0)

/-- R175, one event: a tick puts its conditioned sample in front of the history the ring holds; no other event changes
the history. -/
def Obligations.EachTickExtendsTheHistory : Prop :=
  ∀ (i : Instr) (s t : State) (h : List Int), i.wf = true → Inv s → RingHolds h s → exec i s = .next t →
    (∀ raw, i = .tick raw → RingHolds (conditionedSample t raw :: h) t) ∧
    ((∀ raw, i ≠ .tick raw) → RingHolds h t)

/-- R175, R86: after any run of events from reset, the slot `d` behind the cursor holds the sample conditioned `d` ticks
before, and the fill count is the number of ticks, saturating. -/
def Obligations.DelayIsExact : Prop :=
  ∀ (c : LegalConfig) (is : List Instr) (t : State), (∀ i ∈ is, i.wf = true) →
    runEvents is (State.resetWith c) = .next t → RingHolds (conditionedRun is (State.resetWith c) []) t

/-- R83: a write sets its slot to the 32-bit value, changes no other entry, and writes nothing else (the premise that the
ring's list is in canonical form is the model's invariant: log entry 4). -/
def Obligations.RingReadAfterWrite : Prop :=
  ∀ (s : State) (i : Nat) (v : Int), Memory.wf s.buf → i < s.cfg.BUF_N → -2 ^ 31 ≤ v → v ≤ 2 ^ 31 - 1 →
    bufRead (bufWrite i v s) i = v ∧ (∀ j, j < s.cfg.BUF_N → j ≠ i → bufRead (bufWrite i v s) j = bufRead s j) ∧
    bufWrite i v s = { s with buf := (bufWrite i v s).buf }

/-! ## The effects chain (spec/43_effects.md) -/

/-- R196: the triangle's two halves and its range. -/
def Obligations.TriangleOfThePhase : Prop :=
  ∀ ph : BitVec 32, 0 ≤ tri ph ∧ tri ph ≤ 32767 ∧
    (ph.toNat < 2 ^ 31 → tri ph = (ph.toNat / 2 ^ 16 : Nat)) ∧
    (2 ^ 31 ≤ ph.toNat → tri ph = 65535 - (ph.toNat / 2 ^ 16 : Nat))

/-- R197: the increment is the floor of the quotient, and fits its register, for every rate in its range. -/
def Obligations.IncrementIsTheFloorOfTheQuotient : Prop :=
  ∀ (DIV : Nat) (rate : Int), 1 ≤ DIV → DIV ≤ 2 ^ 31 - 1 → 0 ≤ rate → rate ≤ DIV - 1 →
    ((inc DIV rate).toNat : Int) * DIV ≤ rate * 2 ^ 32 ∧ rate * 2 ^ 32 < ((inc DIV rate).toNat + 1 : Int) * DIV

/-- R191, R192: a disabled engine passes its input, whatever EFFECT_IMPL is; the output of an enabled supplied engine is
bounded by a function of the configuration (the input bound is one too: log entry 6). -/
def Obligations.EngineContract : Prop :=
  ∀ (e : Effect) (y : Int) (w0 sw : Nat) (s : State),
    (getEffect s.en e = false → (engineOf e y w0 sw s).1 = y) ∧
    (s.cfg.EFFECT_IMPL = .supplied → e ≠ .delay → getEffect s.en e = true →
      |(engineOf e y w0 sw s).1| ≤ Config.suppliedBound e s.cfg)

/-- R208, R194: an engine reads no enable flag but its own, and under REF no engine's state update reads any. -/
def Obligations.EnginesReadOnlyTheirOwnFlag : Prop :=
  ∀ (e : Effect) (y : Int) (w0 sw : Nat) (s : State) (en : PerEffect Bool),
    (getEffect en e = getEffect s.en e → engineOf e y w0 sw { s with en := en } =
      ((engineOf e y w0 sw s).1, { (engineOf e y w0 sw s).2 with en := en })) ∧
    (s.cfg.EFFECT_IMPL = .ref → (engineOf e y w0 sw { s with en := en }).2 =
      { (engineOf e y w0 sw s).2 with en := en })

/-- R206, R194: under REF what a tick leaves in the conditioner, the ring, the timebase and the phases does not depend on
the enable flags, and the low-pass state not on the flags of the engines after its input. -/
def Obligations.WarmStateDoesNotDependOnTheFlags : Prop :=
  ∀ (raw : Int) (s t u : State) (en : PerEffect Bool), s.cfg.EFFECT_IMPL = .ref →
    exec (.tick raw) s = .next t → exec (.tick raw) { s with en := en } = .next u →
    KeepsConditioner t u ∧ u.buf = t.buf ∧ u.wr_cursor = t.wr_cursor ∧ u.samples_written = t.samples_written ∧
    u.tick_count = t.tick_count ∧ u.ph_c = t.ph_c ∧ u.ph_t = t.ph_t ∧
    (en.delay = s.en.delay → en.chorus = s.en.chorus → en.tremolo = s.en.tremolo → u.lp_b = t.lp_b)

/-- R198: the reference chorus, its tap distance and its range. -/
def Obligations.ChorusEngine : Prop :=
  ∀ (y1 : Int) (w0 sw : Nat) (s : State), s.cfg.EFFECT_IMPL = .ref →
    s.cfg.range.chorusLen.MIN ≤ paramVal s .chorusLen → paramVal s .chorusLen ≤ s.cfg.range.chorusLen.MAX →
    let off : Int := paramVal s .chorusLen + tri s.ph_c * s.cfg.CH_SWING / 2 ^ 15
    1 ≤ off ∧ off ≤ s.cfg.BUF_N - 1 ∧ paramVal s .chorusLen ≤ off ∧
    (1 ≤ s.cfg.CH_SWING → off ≤ paramVal s .chorusLen + s.cfg.CH_SWING - 1) ∧
    (s.cfg.CH_SWING = 0 → off = paramVal s .chorusLen) ∧
    (s.en.chorus = true → (sw : Int) > off → (chorus y1 w0 sw s).1 = (y1 + tap s w0 off) / 2) ∧
    (s.en.chorus = false ∨ (sw : Int) ≤ off → (chorus y1 w0 sw s).1 = y1) ∧
    (chorus y1 w0 sw s).2 = { s with ph_c := BitVec.ofNat 32 (s.ph_c.toNat + s.ch_inc.toNat) }

/-- R200, R201: the reference tremolo, its gain's range, and that it lies between the sample and 0. -/
def Obligations.TremoloEngine : Prop :=
  ∀ (y2 : Int) (w0 sw : Nat) (s : State), s.cfg.EFFECT_IMPL = .ref → 0 ≤ paramVal s .tremDepth →
    paramVal s .tremDepth ≤ 256 →
    let g : Int := 256 - paramVal s .tremDepth * tri s.ph_t / 2 ^ 15
    (1 ≤ paramVal s .tremDepth → 257 - paramVal s .tremDepth ≤ g) ∧ g ≤ 256 ∧ (paramVal s .tremDepth = 0 → g = 256) ∧
    (s.en.tremolo = true → (tremolo y2 w0 sw s).1 = y2 * g / 2 ^ 8) ∧
    (s.en.tremolo = false → (tremolo y2 w0 sw s).1 = y2) ∧
    (0 ≤ y2 → 0 ≤ (tremolo y2 w0 sw s).1 ∧ (tremolo y2 w0 sw s).1 ≤ y2) ∧
    (y2 < 0 → y2 ≤ (tremolo y2 w0 sw s).1 ∧ (tremolo y2 w0 sw s).1 ≤ 0) ∧
    (tremolo y2 w0 sw s).2 = { s with ph_t := BitVec.ofNat 32 (s.ph_t.toNat + s.trem_inc.toNat) }

/-- R202: the reference bass-boost; the register holds the exact low-pass state for every input the chain can give
(|y3| at most 2^31 - 1, R207). -/
def Obligations.BassBoostEngine : Prop :=
  ∀ (y3 : Int) (w0 sw : Nat) (s : State), s.cfg.EFFECT_IMPL = .ref → |y3| ≤ 2 ^ 31 - 1 →
    let lp : Int := s.lp_b.toInt + (y3 - s.lp_b.toInt) / 2 ^ s.cfg.BB_SHIFT
    (bass y3 w0 sw s).2.lp_b.toInt = lp ∧ (bass y3 w0 sw s).2 = { s with lp_b := (bass y3 w0 sw s).2.lp_b } ∧
    (s.en.bass = true → (bass y3 w0 sw s).1 = y3 + lp * paramVal s .bassGain / 2 ^ 8) ∧
    (s.en.bass = false → (bass y3 w0 sw s).1 = y3) ∧ (paramVal s .bassGain = 0 → (bass y3 w0 sw s).1 = y3)

/-- R204: the reference reverb. -/
def Obligations.ReverbEngine : Prop :=
  ∀ (y4 : Int) (w0 sw : Nat) (s : State), s.cfg.EFFECT_IMPL = .ref →
    let t : Int := (tap s w0 s.cfg.RV_D1 + tap s w0 s.cfg.RV_D2) / 2
    (reverb y4 w0 sw s).2 = s ∧ (s.en.reverb = false ∨ sw ≤ s.cfg.RV_D2 → (reverb y4 w0 sw s).1 = y4) ∧
    (s.en.reverb = true → sw > s.cfg.RV_D2 →
      (reverb y4 w0 sw s).1 = (y4 * (256 - paramVal s .revMix) + t * paramVal s .revMix) / 2 ^ 8 ∧
      (paramVal s .revMix = 0 → (reverb y4 w0 sw s).1 = y4) ∧ (paramVal s .revMix = 256 → (reverb y4 w0 sw s).1 = t))

/-- R207: the bounds of the reference chain, M = 2^31 - 1, so that no register narrows a value and a 64-bit datapath is
exact. -/
def Obligations.ReferenceChainBounds : Prop :=
  ∀ (y : Int) (w0 sw : Nat) (s : State), Inv s →
    (|y| ≤ 2 ^ 31 - 1 →
      |delayStage y w0 sw s| ≤ 2 ^ 31 - 1 ∧ |chorusRefOut y w0 sw s| ≤ 2 ^ 31 - 1 ∧ |tremoloRefOut y s| ≤ 2 ^ 31 - 1 ∧
      |nextLp y s| ≤ 2 ^ 31 - 1 ∧ |bassRefOut y s| ≤ 257 * (2 ^ 31 - 1)) ∧
    (|y| ≤ 257 * (2 ^ 31 - 1) →
      |reverbRefOut y w0 sw s| ≤ 257 * (2 ^ 31 - 1) ∧ |y * (256 - paramVal s .revMix)| < 2 ^ 48) ∧
    |s.lp_b.toInt * paramVal s .bassGain| < 2 ^ 48

/-! ## TICK and the output stage (spec/40_tick.md, spec/44_output.md) -/

/-- R131, R190, R230 to R233: the chain runs in its order on the conditioned sample, with the cursor and fill count of the
tick's start, and the clipped, re-centred, clamped result is stored and emitted, one value a tick. R47, R48, R206: the
engines' state after the tick is the state the chain leaves. -/
def Obligations.TickEmitsTheOutputLevel : Prop :=
  ∀ (raw : Int) (s : State), ∃ t, exec (.tick raw) s = .next t ∧
    let c := conditioner raw { s with tick_count := s.tick_count + 1 }
    let w0 := s.wr_cursor.toNat
    let sw := s.samples_written.toNat
    let y1 := delayStage c.1 w0 sw c.2
    let y2 := chorus y1 w0 sw c.2
    let y3 := tremolo y2.1 w0 sw y2.2
    let y4 := bass y3.1 w0 sw y3.2
    let y5 := reverb y4.1 w0 sw y4.2
    c.1 = conditionedSample t raw ∧
    (t.out_level.toNat : Int) = max 0 (min (s.cfg.OUTPUT_SCALE : Int)
      (max (-(s.cfg.OUT_CLIP : Int)) (min (s.cfg.OUT_CLIP : Int) y5.1) + (s.cfg.OUTPUT_SCALE : Int) / 2)) ∧
    t.outputs = s.outputs ++ [t.out_level] ∧ t.responses = s.responses ∧
    t.ph_c = y5.2.ph_c ∧ t.ph_t = y5.2.ph_t ∧ t.lp_b = y5.2.lp_b ∧ t.supplied = y5.2.supplied

/-- R135, R41, R134: a tick counts itself, modulo 2^32, and writes no Parameter Store, quadrature or debounce field; in
the ring it writes at most the slot at the cursor. The last two clauses are the model's choice (log entry 13): R47 and R48
say that ph_c, ph_t and lp_b exist only under REF, and the model keeps the state of the set that is not chosen as it is. -/
def Obligations.TickFrame : Prop :=
  ∀ (raw : Int) (s : State), ∃ t, exec (.tick raw) s = .next t ∧
    t.tick_count.toNat = (s.tick_count.toNat + 1) % 2 ^ 32 ∧ KeepsStore s t ∧ KeepsQuadrature s t ∧ KeepsDebounce s t ∧
    KeepsRest s t ∧ (∀ i, i ≠ s.wr_cursor.toNat % s.cfg.BUF_N → Memory.read t.buf i = Memory.read s.buf i) ∧
    (s.cfg.EFFECT_IMPL = .ref → t.supplied = s.supplied) ∧
    (s.cfg.EFFECT_IMPL = .supplied → t.ph_c = s.ph_c ∧ t.ph_t = s.ph_t ∧ t.lp_b = s.lp_b)

/-- R232, R234: the output's range, when it is the mid-level, and when the final clamp acts. -/
def Obligations.OutputIsMidLevelExactlyForZero : Prop :=
  ∀ (c : LegalConfig) (y5 : Int),
    0 ≤ outStage c y5 ∧ outStage c y5 ≤ c.OUTPUT_SCALE ∧
    (2 ≤ c.OUTPUT_SCALE → (outStage c y5 = c.OUTPUT_SCALE / 2 ↔ y5 = 0 ∨ c.OUT_CLIP = 0)) ∧
    (c.OUTPUT_SCALE ≤ 1 → hardClip c y5 ≤ 0 → outStage c y5 = 0) ∧
    (c.OUT_CLIP ≤ c.OUTPUT_SCALE / 2 → outStage c y5 = hardClip c y5 + c.OUTPUT_SCALE / 2)

/-- R234 with 95_test_vectors.md W7: from reset, every effect disabled, a constant raw input gives the mid-level on every
tick, from the first, in every configuration. -/
def Obligations.ConstantInputGivesTheMidLevel : Prop :=
  ∀ (c : LegalConfig) (raw : Int) (n : Nat), InRawRange raw →
    ∃ t, runEvents (List.replicate n (.tick raw)) (State.resetWith c) = .next t ∧
      t.outputs.map BitVec.toNat = List.replicate n (c.OUTPUT_SCALE / 2)

/-! ## The quadrature decoder (spec/45_quadrature.md) -/

/-- R241 to R245: a reading becomes the previous one; only `10 -> 00` and `01 -> 00` dispatch, once, up and down; both
flags end 0; nothing else changes. -/
def Obligations.EncoderReading : Prop :=
  ∀ (ab : BitVec 2) (s : State), s.cw_seen = false → s.ccw_seen = false →
    (s.enc_prev = 0b10#2 → ab = 0b00#2 → exec (.enc ab) s = .next { rotDispatch 1 s with enc_prev := ab }) ∧
    (s.enc_prev = 0b01#2 → ab = 0b00#2 → exec (.enc ab) s = .next { rotDispatch (-1) s with enc_prev := ab }) ∧
    (ab ≠ 0b00#2 ∨ s.enc_prev = 0b00#2 ∨ s.enc_prev = 0b11#2 → exec (.enc ab) s = .next { s with enc_prev := ab })

/-- R242: the table of classes, with its events at the last step of a cycle. -/
def Obligations.TransitionClasses : Prop :=
  ∀ p r : BitVec 2,
    (classify p r = .same ↔ p = r) ∧ (classify p r = .jump ↔ p ^^^ r = 0b11#2) ∧
    (classify p r = .cwStep ↔ (p, r) ∈ [(0b00#2, 0b01#2), (0b01#2, 0b11#2), (0b11#2, 0b10#2), (0b10#2, 0b00#2)]) ∧
    (classify p r = .ccwStep ↔ (p, r) ∈ [(0b00#2, 0b10#2), (0b10#2, 0b11#2), (0b11#2, 0b01#2), (0b01#2, 0b00#2)]) ∧
    (isCwEvent p r = true ↔ classify p r = .cwStep ∧ r = 0b00#2) ∧
    (isCcwEvent p r = true ↔ classify p r = .ccwStep ∧ r = 0b00#2)

/-- R246: from any reading, a clean clockwise cycle is one dispatch up and no dispatch down, a clean counter-clockwise
cycle the reverse, and a two-bit jump neither. -/
def Obligations.CleanCycleDispatchesOnce : Prop :=
  ∀ (q : BitVec 2) (s : State), s.cw_seen = false → s.ccw_seen = false → s.enc_prev = q →
    runEvents [.enc (cwNext q), .enc (cwNext (cwNext q)), .enc (cwNext (cwNext (cwNext q))), .enc q] s =
      .next (rotDispatch 1 s) ∧
    runEvents [.enc (cwNext (cwNext (cwNext q))), .enc (cwNext (cwNext q)), .enc (cwNext q), .enc q] s =
      .next (rotDispatch (-1) s) ∧
    exec (.enc (~~~q)) s = .next { s with enc_prev := ~~~q }

/-- R249, R248: a bounce at the rest reading is an event; the first reading after reset is none. -/
def Obligations.BounceAtRestIsAnEvent : Prop :=
  ∀ s : State, s.cw_seen = false → s.ccw_seen = false → s.enc_prev = 0b00#2 →
    runEvents [.enc 0b01, .enc 0b00] s = .next (rotDispatch (-1) s) ∧
    runEvents [.enc 0b10, .enc 0b00] s = .next (rotDispatch 1 s) ∧
    (∀ ab, exec (.enc ab) s = .next { s with enc_prev := ab })

/-! ## The dispatcher (spec/46_dispatch.md) -/

/-- R258, R259, R261, R262: a rotation steps the relevant parameter of the first enabled effect, clamped, and nothing
else; with no effect enabled it changes nothing. -/
def Obligations.RotationAdjustsTheFirstEnabledEffect : Prop :=
  (relParam .delay = .delayLen ∧ relParam .chorus = .chorusLen ∧ relParam .tremolo = .tremRate ∧
    relParam .bass = .bassGain ∧ relParam .reverb = .revMix) ∧
  ∀ (dir : Int) (s : State),
    ((∀ e, getEffect s.en e = false) → rotDispatch dir s = s) ∧
    (∀ e, getEffect s.en e = true → (∀ e', e'.id.toNat < e.id.toNat → getEffect s.en e' = false) →
      let p := relParam e
      paramVal (rotDispatch dir s) p =
        max (rangeOf s p).MIN (min (rangeOf s p).MAX (paramVal s p + dir * (rangeOf s p).STEP)) ∧
      (∀ q, q ≠ p → paramVal (rotDispatch dir s) q = paramVal s q) ∧
      (rotDispatch dir s).en = s.en ∧ (rotDispatch dir s).ch_inc = s.ch_inc ∧
      (p ≠ .tremRate → (rotDispatch dir s).trem_inc = s.trem_inc) ∧
      (p = .tremRate → (rotDispatch dir s).trem_inc = inc s.cfg.RATE_DIV (paramVal (rotDispatch dir s) p))) ∧
    (KeepsAudio s (rotDispatch dir s) ∧ KeepsQuadrature s (rotDispatch dir s) ∧ KeepsDebounce s (rotDispatch dir s) ∧
      KeepsRest s (rotDispatch dir s) ∧ KeepsPorts s (rotDispatch dir s))

/-- R272, R260: SETP clamps to the range and never rejects, refreshes the cached increment, and changes nothing else. -/
def Obligations.SetParameterClamps : Prop :=
  ∀ (p : Param) (v : Int) (s : State), ∃ t, exec (.setp p v) s = .next t ∧
    paramVal t p = max (rangeOf s p).MIN (min (rangeOf s p).MAX v) ∧
    (∀ q, q ≠ p → paramVal t q = paramVal s q) ∧
    (p = .chorusRate → t.ch_inc = inc s.cfg.RATE_DIV (paramVal t p)) ∧ (p ≠ .chorusRate → t.ch_inc = s.ch_inc) ∧
    (p = .tremRate → t.trem_inc = inc s.cfg.RATE_DIV (paramVal t p)) ∧ (p ≠ .tremRate → t.trem_inc = s.trem_inc) ∧
    t.en = s.en ∧ KeepsAudio s t ∧ KeepsQuadrature s t ∧ KeepsDebounce s t ∧ KeepsRest s t ∧ KeepsPorts s t

/-- R250 to R256: a reading is recorded whole; the first rising effect button, if it is accepted, toggles its flag and
records the tick; every other press and bit 5 do nothing. -/
def Obligations.ButtonReading : Prop :=
  ∀ (lv : BitVec 6) (s : State), ∃ t, exec (.btn lv) s = .next t ∧ t.btn_prev = lv ∧
    let rises := fun e : Effect => e.button &&& lv ≠ 0 ∧ e.button &&& s.btn_prev = 0
    ((s.any_accepted = true ∧ (s.tick_count.toNat + 2 ^ 32 - s.last_any.toNat) % 2 ^ 32 ≤ s.cfg.DEBOUNCE_TICKS) ∨
        (∀ e, ¬ rises e) → t.en = s.en ∧ KeepsPresses s t) ∧
    (∀ e, rises e → (∀ e', e'.id.toNat < e.id.toNat → ¬ rises e') →
      s.any_accepted = false ∨ (s.tick_count.toNat + 2 ^ 32 - s.last_any.toNat) % 2 ^ 32 > s.cfg.DEBOUNCE_TICKS →
      getEffect t.en e = !getEffect s.en e ∧ getEffect t.last_btn e = s.tick_count ∧ t.last_any = s.tick_count ∧
      t.any_accepted = true ∧
      (∀ e', e' ≠ e → getEffect t.en e' = getEffect s.en e' ∧ getEffect t.last_btn e' = getEffect s.last_btn e')) ∧
    KeepsParams s t ∧ KeepsAudio s t ∧ KeepsQuadrature s t ∧ KeepsRest s t ∧ KeepsPorts s t

/-- R257: with a press accepted at tick `t1` and none since, a reading in which an effect button rises is accepted
exactly when more than DEBOUNCE_TICKS ticks have passed, modulo 2^32. -/
def Obligations.SecondPressNeedsTheDebounceWindow : Prop :=
  ∀ (lv : BitVec 6) (s t : State), s.any_accepted = true →
    (∃ e : Effect, e.button &&& lv ≠ 0 ∧ e.button &&& s.btn_prev = 0) → exec (.btn lv) s = .next t →
    let delta := (s.tick_count.toNat + 2 ^ 32 - s.last_any.toNat) % 2 ^ 32
    (t.en ≠ s.en ↔ delta > s.cfg.DEBOUNCE_TICKS) ∧
    t.last_any = (if delta > s.cfg.DEBOUNCE_TICKS then s.tick_count else s.last_any) ∧ t.any_accepted = true

/-- R320: with the last accepted press within the debounce window, without a tick no later press is accepted, whatever the
other events are; and only SETEN changes an enable flag. -/
def Obligations.WithoutTicksNoSecondPress : Prop :=
  ∀ (is : List Instr) (s t : State), (∀ i ∈ is, ∀ raw, i ≠ .tick raw) → s.any_accepted = true →
    (s.tick_count.toNat + 2 ^ 32 - s.last_any.toNat) % 2 ^ 32 ≤ s.cfg.DEBOUNCE_TICKS → runEvents is s = .next t →
    t.last_any = s.last_any ∧ t.last_btn = s.last_btn ∧ ((∀ i ∈ is, ∀ e v, i ≠ .seten e v) → t.en = s.en)

/-! ## The host port (spec/47_host.md) -/

/-- R270: SETEN sets one flag, and changes nothing else. -/
def Obligations.SetEnable : Prop :=
  ∀ (e : Effect) (v : Bool) (s : State), ∃ t, exec (.seten e v) s = .next t ∧
    (∀ e', getEffect t.en e' = if e' = e then v else getEffect s.en e') ∧ t = { s with en := t.en }

/-- R271, R84: GETEN responds the flag, and changes nothing. -/
def Obligations.GetEnable : Prop :=
  ∀ (e : Effect) (s : State), ∃ x : Response,
    exec (.geten e) s = .next { s with responses := s.responses ++ [x] } ∧
    x.toNat = if getEffect s.en e then 1 else 0

/-- R273, R84: GETP responds the parameter, sign-extended, and changes nothing. -/
def Obligations.GetParameter : Prop :=
  ∀ (p : Param) (s : State), ∃ x : Response,
    exec (.getp p) s = .next { s with responses := s.responses ++ [x] } ∧ x.toInt = paramVal s p

/-- R276, R84: RDST responds the item's field, sign- or zero-extended, and changes nothing; the items of the reference
engines respond 0 under a supplied EFFECT_IMPL. -/
def Obligations.ReadItem : Prop :=
  ∀ (n : Item) (s : State), ∃ x : Response,
    exec (.rdst n) s = .next { s with responses := s.responses ++ [x] } ∧
    (n = .bias → x.toInt = s.bias.toInt) ∧ (n = .biasSeeded → x.toNat = if s.bias_seeded then 1 else 0) ∧
    (n = .hpfLp → x.toInt = s.hpf_lp.toInt) ∧ (n = .agcGain → x.toNat = s.agc_gain.toNat) ∧
    (n = .wrCursor → x.toNat = s.wr_cursor.toNat) ∧ (n = .samplesWritten → x.toNat = s.samples_written.toNat) ∧
    (n = .tickCount → x.toNat = s.tick_count.toNat) ∧ (n = .outLevel → x.toNat = s.out_level.toNat) ∧
    (n = .encPrev → x.toNat = s.enc_prev.toNat) ∧ (n = .lastAny → x.toNat = s.last_any.toNat) ∧
    (n = .anyAccepted → x.toNat = if s.any_accepted then 1 else 0) ∧ (n = .btnPrev → x.toNat = s.btn_prev.toNat) ∧
    (s.cfg.EFFECT_IMPL = .ref →
      (n = .phC → x.toNat = s.ph_c.toNat) ∧ (n = .phT → x.toNat = s.ph_t.toNat) ∧
      (n = .lpB → x.toInt = s.lp_b.toInt) ∧ (n = .tremInc → x.toNat = s.trem_inc.toNat)) ∧
    (s.cfg.EFFECT_IMPL = .supplied → n ∈ [.phC, .phT, .lpB, .tremInc] → x.toNat = 0)

/-! ## The invariant -/

/-- The invariant holds right after reset, of every legal configuration's machine. -/
def Obligations.InvariantHoldsAtReset : Prop := (∀ c : LegalConfig, Inv (State.resetWith c)) ∧ Inv State.reset

/-- Every step keeps the invariant: the registers keep their ranges, the ring its form, the increments follow their rates
(R149, R156, R177, R207, R234, R263). -/
def Obligations.EveryStepKeepsTheInvariant : Prop := ∀ s t : State, Inv s → step s = .next t → Inv t
end

