-- ==== Sys2Proof/Laws/Arith.lean ====
section
/-! SUPPORT. The laws of the arithmetic primitives: shifts are floor divisions (spec/00_scope.md R12), a register holds a
value of its range exactly (R10), and how far a scaled step moves a value (spec/41_conditioner.md R155). -/

namespace Sys2Proof.Machine

/-- R12: "equal to floor(a / 2^s)". -/
theorem asr_eq_div (a : Int) (s : Nat) : asr a s = a / 2 ^ s := by
  rw [asr, Int.shiftRight_eq_div_pow, Int.natCast_pow]
  rfl

/-- A signed register holds every value of its range exactly. -/
theorem toReg_toInt {w : Nat} {v : Int} (hw : 0 < w) (lo : -2 ^ (w - 1) ≤ v) (hi : v ≤ 2 ^ (w - 1) - 1) :
    (toReg w v).toInt = v := by
  obtain ⟨n, rfl⟩ : ∃ n, w = n + 1 := ⟨w - 1, by omega⟩
  rw [toReg, BitVec.toInt_ofInt]
  simp only [Nat.add_sub_cancel] at lo hi
  apply Int.bmod_eq_of_le_mul_two
  · push_cast [Nat.pow_succ]; omega
  · push_cast [Nat.pow_succ]; omega

theorem toReg32_toInt {v : Int} (lo : -2 ^ 31 ≤ v) (hi : v ≤ 2 ^ 31 - 1) : (toReg 32 v).toInt = v :=
  toReg_toInt (by decide) lo hi

theorem toReg64_toInt {v : Int} (lo : -2 ^ 63 ≤ v) (hi : v ≤ 2 ^ 63 - 1) : (toReg 64 v).toInt = v :=
  toReg_toInt (by decide) lo hi

/-- An unsigned register holds every value of its range exactly. -/
theorem toReg_toNat {w : Nat} {v : Int} (lo : 0 ≤ v) (hi : v < 2 ^ w) : ((toReg w v).toNat : Int) = v := by
  obtain ⟨n, rfl⟩ := Int.eq_ofNat_of_zero_le lo
  rw [toReg, BitVec.ofInt_natCast, BitVec.toNat_ofNat]
  congr 1
  exact Nat.mod_eq_of_lt (by exact_mod_cast hi)

theorem toReg_natCast_toNat {w n : Nat} (hi : n < 2 ^ w) : (toReg w (n : Int)).toNat = n := by
  rw [toReg, BitVec.ofInt_natCast, BitVec.toNat_ofNat, Nat.mod_eq_of_lt hi]

/-- A shift moves a nonnegative value toward 0. -/
theorem div_pow_nonneg {x : Int} (s : Nat) (h : 0 ≤ x) : 0 ≤ x / 2 ^ s ∧ x / 2 ^ s ≤ x :=
  ⟨Int.ediv_nonneg h (by positivity), Int.ediv_le_self _ h⟩

/-- A shift moves a negative value toward -1. -/
theorem div_pow_neg {x : Int} (s : Nat) (h : x < 0) : x ≤ x / 2 ^ s ∧ x / 2 ^ s ≤ -1 := by
  have hp : (0 : Int) < 2 ^ s := by positivity
  refine ⟨?_, ?_⟩
  · rw [Int.le_ediv_iff_mul_le hp]; nlinarith
  · have := Int.ediv_neg_of_neg_of_pos h hp; omega

/-- A value scaled by at most 256/256 and floored stays between the value and 0, or -1 below. -/
theorem scaled_nonneg {x : Int} {c : Nat} (h : 0 ≤ x) (hc : c ≤ 256) : 0 ≤ x * c / 2 ^ 8 ∧ x * c / 2 ^ 8 ≤ x := by
  have h1 : 0 ≤ x * (c : Int) := by positivity
  have h2 : x * (c : Int) ≤ x * 256 := by apply Int.mul_le_mul_of_nonneg_left _ h; exact_mod_cast hc
  omega

theorem scaled_neg {x : Int} {c : Nat} (h : x < 0) (hc : c ≤ 256) : x ≤ x * c / 2 ^ 8 ∧ x * c / 2 ^ 8 ≤ 0 := by
  have h1 : x * (c : Int) ≤ 0 := Int.mul_nonpos_of_nonpos_of_nonneg (le_of_lt h) (by positivity)
  have h2 : x * 256 ≤ x * (c : Int) := mul_le_mul_of_nonpos_left (by exact_mod_cast hc) (le_of_lt h)
  omega

/-- `a` moved toward `b` by a shifted difference stays between them (R155). -/
theorem ema_between {a b lo hi : Int} (k : Nat) (ha : lo ≤ a ∧ a ≤ hi) (hb : lo ≤ b ∧ b ≤ hi) :
    lo ≤ a + (b - a) / 2 ^ k ∧ a + (b - a) / 2 ^ k ≤ hi := by
  rcases lt_or_ge (b - a) 0 with h | h
  · have := div_pow_neg k h; omega
  · have := div_pow_nonneg k h; omega

/-- `a` moved toward `b` by a scaled difference stays between them (R156). -/
theorem onePole_between {a b lo hi : Int} {c : Nat} (hc : c ≤ 256) (ha : lo ≤ a ∧ a ≤ hi) (hb : lo ≤ b ∧ b ≤ hi) :
    lo ≤ a + (b - a) * c / 2 ^ 8 ∧ a + (b - a) * c / 2 ^ 8 ≤ hi := by
  rcases lt_or_ge (b - a) 0 with h | h
  · have := scaled_neg h hc; omega
  · have := scaled_nonneg h hc; omega

/-- R14: for `lo <= hi` the clamp lies in the range. -/
theorem clamp_mem {v lo hi : Int} (h : lo ≤ hi) : lo ≤ clamp v lo hi ∧ clamp v lo hi ≤ hi := by
  rw [clamp]; omega

/-- The clamp, from the other side. -/
theorem clamp_eq_max_min {v lo hi : Int} (h : lo ≤ hi) : clamp v lo hi = max lo (min hi v) := by
  rw [clamp]; omega

end Sys2Proof.Machine
end

