-- ==== Sys2Proof/Laws/Config.lean ====
section
/-! SUPPORT. What a legal configuration gives (spec/00_scope.md R8, R9), one fact per lemma. -/

namespace Sys2Proof

/-- A legal configuration meets R8 and R9. -/
theorem Config.legal_of_isLegal {c : Config} (h : c.isLegal = true) : c.RangesLegal ∧ c.RelationsLegal := by
  simpa only [Config.isLegal, Bool.and_eq_true, decide_eq_true_eq] using h

/-- And what meets them is legal. -/
theorem Config.isLegal_of_legal {c : Config} (h : c.RangesLegal ∧ c.RelationsLegal) : c.isLegal = true := by
  simpa only [Config.isLegal, Bool.and_eq_true, decide_eq_true_eq] using h

/-- The implementation's configuration has the source's values where the source fixes them. -/
theorem Config.implementation_sourceFixed : Config.implementation.SourceFixed := ⟨rfl, rfl, rfl, rfl⟩

namespace LegalConfig

variable (c : LegalConfig)

theorem ranges : c.RangesLegal := (Config.legal_of_isLegal c.legal).1

theorem relations : c.RelationsLegal := (Config.legal_of_isLegal c.legal).2

theorem two_le_BUF_N : 2 ≤ c.BUF_N := c.ranges.1.1

theorem BUF_N_le : c.BUF_N ≤ 2 ^ 24 := c.ranges.1.2

theorem BUF_N_pos : 0 < c.BUF_N := by have := c.two_le_BUF_N; omega

theorem HPF_COEFF_le : c.HPF_COEFF ≤ 256 := c.ranges.2.2.1

theorem three_le_SCALE_SHIFT : 3 ≤ c.SCALE_SHIFT := c.ranges.2.2.2.1.1

theorem AGC_MIN_GAIN_le : c.AGC_MIN_GAIN ≤ 256 := c.ranges.2.2.2.2.2.2.1

theorem AGC_STEP_le : c.AGC_STEP ≤ 256 := c.ranges.2.2.2.2.2.2.2.1.2

theorem LIM_IN_T_le : c.LIM_IN_T ≤ 2 ^ 31 - 1 := c.ranges.2.2.2.2.2.2.2.2.1

theorem OUT_CLIP_le : c.OUT_CLIP ≤ 2 ^ 31 - 1 := c.ranges.2.2.2.2.2.2.2.2.2.2.2.1

theorem OUTPUT_SCALE_le : c.OUTPUT_SCALE ≤ 2 ^ 31 - 1 := c.ranges.2.2.2.2.2.2.2.2.2.2.2.2.1

theorem RATE_DIV_pos : 1 ≤ c.RATE_DIV := c.ranges.2.2.2.2.2.2.2.2.2.2.2.2.2.2.1.1

theorem RATE_DIV_le : c.RATE_DIV ≤ 2 ^ 31 - 1 := c.ranges.2.2.2.2.2.2.2.2.2.2.2.2.2.2.1.2

theorem CH_SWING_le : c.CH_SWING ≤ 2 ^ 15 := c.ranges.2.2.2.2.2.2.2.2.2.2.2.2.2.2.2.1

theorem weights_le : c.DRY_WEIGHT + c.WET_WEIGHT ≤ 256 := c.relations.2.2.2.2.2.2.2.2.1

theorem delayLen_within : c.range.delayLen.Within 1 (c.BUF_N - 1) := c.relations.1

theorem chorusLen_within : 1 ≤ c.range.chorusLen.MIN ∧ c.range.chorusLen.MAX + c.CH_SWING ≤ c.BUF_N - 1 :=
  c.relations.2.1

theorem chorusRate_within : c.range.chorusRate.Within 0 (c.RATE_DIV - 1) := c.relations.2.2.1

theorem tremRate_within : c.range.tremRate.Within 0 (c.RATE_DIV - 1) := c.relations.2.2.2.1

theorem tremDepth_within : c.range.tremDepth.Within 0 256 := c.relations.2.2.2.2.1

theorem revMix_within : c.range.revMix.Within 0 256 := c.relations.2.2.2.2.2.1

theorem bassGain_within : c.range.bassGain.Within 0 65536 := c.relations.2.2.2.2.2.2.1

theorem reverb_taps : 1 ≤ c.RV_D1 ∧ c.RV_D1 < c.RV_D2 ∧ c.RV_D2 ≤ c.BUF_N - 1 := c.relations.2.2.2.2.2.2.2.1

end LegalConfig

end Sys2Proof
end

