-- ==== Sys2Proof/Laws/Decode.lean ====
section
/-! SUPPORT. The laws of the event word's fields and identifiers (spec/30_encoding.md R100 to R112). -/

namespace Sys2Proof

/-- Bit by bit, the data below and the command above. -/
theorem EventWord.getLsbD_make (c : BitVec 8) (d : BitVec 32) (i : Nat) :
    (EventWord.make c d).getLsbD i = if i < 32 then d.getLsbD i else c.getLsbD (i - 32) := by
  simpa [EventWord.make] using BitVec.getLsbD_append (x := c) (y := d) (i := i)

@[simp] theorem EventWord.cmd_make (c : BitVec 8) (d : BitVec 32) : (EventWord.make c d).cmd = c := by
  apply BitVec.eq_of_getLsbD_eq
  intro i hi
  rw [EventWord.cmd, BitVec.getLsbD_extractLsb', EventWord.getLsbD_make, if_neg (by omega)]
  simp [hi]

@[simp] theorem EventWord.data_make (c : BitVec 8) (d : BitVec 32) : (EventWord.make c d).data = d := by
  apply BitVec.eq_of_getLsbD_eq
  intro i hi
  rw [EventWord.data, BitVec.getLsbD_extractLsb', EventWord.getLsbD_make, if_pos (by omega)]
  simp [hi]

/-- A word is its two fields (R100). -/
@[simp] theorem EventWord.make_cmd_data (W : EventWord) : EventWord.make W.cmd W.data = W := by
  apply BitVec.eq_of_getLsbD_eq
  intro i hi
  rw [EventWord.getLsbD_make, EventWord.cmd, EventWord.data, BitVec.getLsbD_extractLsb', BitVec.getLsbD_extractLsb']
  by_cases h : i < 32
  · simp [h]
  · have h8 : i - 32 < 8 := by omega
    have h32 : 32 + (i - 32) = i := by omega
    simp [h, h8, h32]

theorem Effect.ofId?_id (e : Effect) : Effect.ofId? e.id = some e := by cases e <;> rfl

theorem Param.ofId?_id (p : Param) : Param.ofId? p.id = some p := by cases p <;> rfl

theorem Item.ofId_id (n : Item) : Item.ofId n.id = n := by cases n <;> rfl

theorem Item.id_ofId (n : BitVec 4) : (Item.ofId n).id = n := by revert n; decide

/-- A command byte decides the decoder's branch; the data only fills the operands (R112). -/
def decodeFields (cmd : BitVec 8) (data : BitVec 32) : Decoded := decode (EventWord.make cmd data)

theorem decode_eq_decodeFields (W : EventWord) : decode W = decodeFields W.cmd W.data := by
  rw [decodeFields, EventWord.make_cmd_data]

end Sys2Proof
end

