-- ==== Sys2Proof/Laws/Memory.lean ====
section
/-! SUPPORT. The laws of the ring's list: read after write, and that a write keeps the canonical form. -/

namespace Sys2Proof.Machine

/-- A slot below every listed one reads as not listed. -/
theorem Memory.read_of_lt {m : Memory} {i : Nat} (h : ∀ x ∈ m, i < x.1) : Memory.read m i = Memory.unlisted := by
  induction m with
  | nil => rfl
  | cons a m ih =>
    have ha := h a (by simp)
    rw [Memory.read, if_neg (by omega)]
    exact ih fun x hx => h x (by simp [hx])

/-- What `cons` reads as, in front of slots above it. -/
theorem Memory.read_cons {m : Memory} {i j : Nat} {v : Sample} (h : ∀ x ∈ m, i < x.1) :
    Memory.read (Memory.cons i v m) j = if j = i then v else Memory.read m j := by
  unfold Memory.cons
  split
  · next hv =>
    split
    · next hj => rw [hj, Memory.read_of_lt h, hv]
    · rfl
  · rw [Memory.read]
    by_cases hj : j = i
    · rw [if_pos hj.symm, if_pos hj]
    · rw [if_neg (Ne.symm hj), if_neg hj]

/-- Read after write: the slot written gives the value, every other slot reads as before. -/
theorem Memory.read_write {m : Memory} (hm : Memory.wf m) (i j : Nat) (v : Sample) :
    Memory.read (Memory.write m i v) j = if j = i then v else Memory.read m j := by
  induction m with
  | nil => simpa [Memory.write, Memory.read] using Memory.read_cons (m := []) (i := i) (j := j) (v := v) (by simp)
  | cons a m ih =>
    obtain ⟨hs, hz⟩ := hm
    rw [List.pairwise_cons] at hs
    have ihm := ih ⟨hs.2, fun x hx => hz x (by simp [hx])⟩
    rw [Memory.write]
    split
    · next h =>
      refine Memory.read_cons fun x hx => ?_
      rcases List.mem_cons.1 hx with rfl | hx
      · exact h
      · have := hs.1 x hx; omega
    · split
      · next h =>
        rw [Memory.read_cons fun x hx => by rw [h]; exact hs.1 x hx, Memory.read]
        by_cases hj : j = i
        · rw [if_pos hj, if_pos hj]
        · rw [if_neg hj, if_neg hj, if_neg (by omega)]
      · rw [Memory.read, ihm, Memory.read]
        by_cases hj : j = i
        · rw [if_pos hj, if_pos hj, if_neg (by omega)]
        · rw [if_neg hj, if_neg hj]

/-- A write leaves every other slot alone, in any list. -/
theorem Memory.read_write_ne (m : Memory) {i j : Nat} (h : j ≠ i) (v : Sample) :
    Memory.read (Memory.write m i v) j = Memory.read m j := by
  have hc : ∀ m' : Memory, Memory.read (Memory.cons i v m') j = Memory.read m' j := fun m' => by
    unfold Memory.cons
    split
    · rfl
    · rw [Memory.read, if_neg (Ne.symm h)]
  induction m with
  | nil => exact hc []
  | cons a m ih =>
    rw [Memory.write]
    split
    · exact hc _
    · split
      · next hi => rw [hc, Memory.read, if_neg (by omega)]
      · rw [Memory.read, ih, Memory.read]

/-- Every entry of a written list is the new one or an old one. -/
theorem Memory.mem_write {m : Memory} {i : Nat} {v : Sample} {x : Nat × Sample} (h : x ∈ Memory.write m i v) :
    x = (i, v) ∨ x ∈ m := by
  have hc : ∀ m' : Memory, x ∈ Memory.cons i v m' → x = (i, v) ∨ x ∈ m' := fun m' hx => by
    unfold Memory.cons at hx
    split at hx
    · exact .inr hx
    · simpa using hx
  induction m with
  | nil => exact hc _ h
  | cons a m ih =>
    rw [Memory.write] at h
    split at h
    · exact hc _ h
    · split at h
      · rcases hc _ h with h | h
        · exact .inl h
        · exact .inr (by simp [h])
      · rcases List.mem_cons.1 h with h | h
        · exact .inr (by simp [h])
        · rcases ih h with h | h
          · exact .inl h
          · exact .inr (by simp [h])

/-- `cons` keeps the canonical form, in front of slots above it. -/
theorem Memory.wf_cons {m : Memory} {i : Nat} {v : Sample} (hm : Memory.wf m) (h : ∀ x ∈ m, i < x.1) :
    Memory.wf (Memory.cons i v m) := by
  unfold Memory.cons
  split
  · exact hm
  · next hv =>
    refine ⟨List.pairwise_cons.2 ⟨h, hm.1⟩, fun x hx => ?_⟩
    rcases List.mem_cons.1 hx with rfl | hx
    · exact hv
    · exact hm.2 x hx

/-- A write keeps the canonical form. -/
theorem Memory.wf_write {m : Memory} (hm : Memory.wf m) (i : Nat) (v : Sample) : Memory.wf (Memory.write m i v) := by
  induction m with
  | nil => exact Memory.wf_cons hm (by simp)
  | cons a m ih =>
    obtain ⟨hs, hz⟩ := hm
    have hw : Memory.wf (a :: m) := ⟨hs, hz⟩
    rw [List.pairwise_cons] at hs
    have hm' : Memory.wf m := ⟨hs.2, fun x hx => hz x (by simp [hx])⟩
    rw [Memory.write]
    split
    · next h =>
      refine Memory.wf_cons hw fun x hx => ?_
      rcases List.mem_cons.1 hx with rfl | hx
      · exact h
      · have := hs.1 x hx; omega
    · split
      · next h => exact Memory.wf_cons hm' fun x hx => by rw [h]; exact hs.1 x hx
      · next h1 h2 =>
        have hi := ih hm'
        refine ⟨List.pairwise_cons.2 ⟨fun x hx => ?_, hi.1⟩, fun x hx => ?_⟩
        · rcases Memory.mem_write hx with rfl | hx
          · change a.1 < i; omega
          · exact hs.1 x hx
        · rcases List.mem_cons.1 hx with rfl | hx
          · exact hz _ (by simp)
          · exact hi.2 x hx

/-- The slots of a written list are in a range that holds the old ones and the new one. -/
theorem Memory.slots_write {m : Memory} {N i : Nat} (hm : ∀ x ∈ m, x.1 < N) (hi : i < N) (v : Sample) :
    ∀ x ∈ Memory.write m i v, x.1 < N := fun x hx => by
  rcases Memory.mem_write hx with rfl | hx
  · exact hi
  · exact hm x hx

/-- Two lists in canonical form that read alike are equal: equal memories are equal data. -/
theorem Memory.eq_of_read_eq {m m' : Memory} (hm : Memory.wf m) (hm' : Memory.wf m')
    (h : ∀ i, Memory.read m i = Memory.read m' i) : m = m' := by
  induction m generalizing m' with
  | nil =>
    cases m' with
    | nil => rfl
    | cons b m' =>
      have := h b.1
      rw [Memory.read, Memory.read, if_pos rfl] at this
      exact absurd this.symm (hm'.2 b (by simp))
  | cons a m ih =>
    have hs := List.pairwise_cons.1 hm.1
    cases m' with
    | nil =>
      have := h a.1
      rw [Memory.read, Memory.read, if_pos rfl] at this
      exact absurd this (hm.2 a (by simp))
    | cons b m' =>
      have hs' := List.pairwise_cons.1 hm'.1
      have hab : a.1 = b.1 := by
        rcases lt_trichotomy a.1 b.1 with hlt | heq | hgt
        · have := h a.1
          rw [Memory.read, if_pos rfl, Memory.read_of_lt (m := b :: m')] at this
          · exact absurd this (hm.2 a (by simp))
          · intro x hx
            rcases List.mem_cons.1 hx with rfl | hx
            · exact hlt
            · have := hs'.1 x hx; omega
        · exact heq
        · have := h b.1
          rw [Memory.read_of_lt (m := a :: m), Memory.read, if_pos rfl] at this
          · exact absurd this.symm (hm'.2 b (by simp))
          · intro x hx
            rcases List.mem_cons.1 hx with rfl | hx
            · exact hgt
            · have := hs.1 x hx; omega
      have hv : a.2 = b.2 := by
        have := h a.1
        rw [Memory.read, if_pos rfl, Memory.read, if_pos hab.symm] at this
        exact this
      obtain rfl : a = b := Prod.ext hab hv
      congr 1
      refine ih ⟨hs.2, fun x hx => hm.2 x (by simp [hx])⟩ ⟨hs'.2, fun x hx => hm'.2 x (by simp [hx])⟩ fun i => ?_
      have := h i
      rw [Memory.read, Memory.read] at this
      by_cases hi : a.1 = i
      · subst hi
        rw [Memory.read_of_lt hs.1, Memory.read_of_lt hs'.1]
      · rwa [if_neg hi, if_neg hi] at this

end Sys2Proof.Machine
end

