-- ==== Sys2Proof/Laws/State.lean ====
section
/-! SUPPORT. One lemma per field per named update of the state, each true by rfl: no later proof unfolds an update. -/

namespace Sys2Proof.Machine

/-! ## consume -/

@[simp] theorem consume_bias (rest : List Input) (s : State) : (consume rest s).bias = s.bias := rfl
@[simp] theorem consume_bias_seeded (rest : List Input) (s : State) :
    (consume rest s).bias_seeded = s.bias_seeded := rfl
@[simp] theorem consume_hpf_lp (rest : List Input) (s : State) : (consume rest s).hpf_lp = s.hpf_lp := rfl
@[simp] theorem consume_agc_gain (rest : List Input) (s : State) : (consume rest s).agc_gain = s.agc_gain := rfl
@[simp] theorem consume_buf (rest : List Input) (s : State) : (consume rest s).buf = s.buf := rfl
@[simp] theorem consume_wr_cursor (rest : List Input) (s : State) : (consume rest s).wr_cursor = s.wr_cursor := rfl
@[simp] theorem consume_samples_written (rest : List Input) (s : State) :
    (consume rest s).samples_written = s.samples_written := rfl
@[simp] theorem consume_tick_count (rest : List Input) (s : State) : (consume rest s).tick_count = s.tick_count := rfl
@[simp] theorem consume_out_level (rest : List Input) (s : State) : (consume rest s).out_level = s.out_level := rfl
@[simp] theorem consume_en (rest : List Input) (s : State) : (consume rest s).en = s.en := rfl
@[simp] theorem consume_param (rest : List Input) (s : State) : (consume rest s).param = s.param := rfl
@[simp] theorem consume_ch_inc (rest : List Input) (s : State) : (consume rest s).ch_inc = s.ch_inc := rfl
@[simp] theorem consume_trem_inc (rest : List Input) (s : State) : (consume rest s).trem_inc = s.trem_inc := rfl
@[simp] theorem consume_ph_c (rest : List Input) (s : State) : (consume rest s).ph_c = s.ph_c := rfl
@[simp] theorem consume_ph_t (rest : List Input) (s : State) : (consume rest s).ph_t = s.ph_t := rfl
@[simp] theorem consume_lp_b (rest : List Input) (s : State) : (consume rest s).lp_b = s.lp_b := rfl
@[simp] theorem consume_enc_prev (rest : List Input) (s : State) : (consume rest s).enc_prev = s.enc_prev := rfl
@[simp] theorem consume_cw_seen (rest : List Input) (s : State) : (consume rest s).cw_seen = s.cw_seen := rfl
@[simp] theorem consume_ccw_seen (rest : List Input) (s : State) : (consume rest s).ccw_seen = s.ccw_seen := rfl
@[simp] theorem consume_btn_prev (rest : List Input) (s : State) : (consume rest s).btn_prev = s.btn_prev := rfl
@[simp] theorem consume_last_btn (rest : List Input) (s : State) : (consume rest s).last_btn = s.last_btn := rfl
@[simp] theorem consume_last_any (rest : List Input) (s : State) : (consume rest s).last_any = s.last_any := rfl
@[simp] theorem consume_any_accepted (rest : List Input) (s : State) :
    (consume rest s).any_accepted = s.any_accepted := rfl
@[simp] theorem consume_refused (rest : List Input) (s : State) : (consume rest s).refused = s.refused := rfl
@[simp] theorem consume_cfg (rest : List Input) (s : State) : (consume rest s).cfg = s.cfg := rfl
@[simp] theorem consume_supplied (rest : List Input) (s : State) : (consume rest s).supplied = s.supplied := rfl
@[simp] theorem consume_pending (rest : List Input) (s : State) : (consume rest s).pending = rest := rfl
@[simp] theorem consume_reset_asserted (rest : List Input) (s : State) :
    (consume rest s).reset_asserted = s.reset_asserted := rfl
@[simp] theorem consume_outputs (rest : List Input) (s : State) : (consume rest s).outputs = s.outputs := rfl
@[simp] theorem consume_responses (rest : List Input) (s : State) : (consume rest s).responses = s.responses := rfl

/-! ## markRefused -/

@[simp] theorem markRefused_bias (s : State) : (markRefused s).bias = s.bias := rfl
@[simp] theorem markRefused_bias_seeded (s : State) : (markRefused s).bias_seeded = s.bias_seeded := rfl
@[simp] theorem markRefused_hpf_lp (s : State) : (markRefused s).hpf_lp = s.hpf_lp := rfl
@[simp] theorem markRefused_agc_gain (s : State) : (markRefused s).agc_gain = s.agc_gain := rfl
@[simp] theorem markRefused_buf (s : State) : (markRefused s).buf = s.buf := rfl
@[simp] theorem markRefused_wr_cursor (s : State) : (markRefused s).wr_cursor = s.wr_cursor := rfl
@[simp] theorem markRefused_samples_written (s : State) : (markRefused s).samples_written = s.samples_written := rfl
@[simp] theorem markRefused_tick_count (s : State) : (markRefused s).tick_count = s.tick_count := rfl
@[simp] theorem markRefused_out_level (s : State) : (markRefused s).out_level = s.out_level := rfl
@[simp] theorem markRefused_en (s : State) : (markRefused s).en = s.en := rfl
@[simp] theorem markRefused_param (s : State) : (markRefused s).param = s.param := rfl
@[simp] theorem markRefused_ch_inc (s : State) : (markRefused s).ch_inc = s.ch_inc := rfl
@[simp] theorem markRefused_trem_inc (s : State) : (markRefused s).trem_inc = s.trem_inc := rfl
@[simp] theorem markRefused_ph_c (s : State) : (markRefused s).ph_c = s.ph_c := rfl
@[simp] theorem markRefused_ph_t (s : State) : (markRefused s).ph_t = s.ph_t := rfl
@[simp] theorem markRefused_lp_b (s : State) : (markRefused s).lp_b = s.lp_b := rfl
@[simp] theorem markRefused_enc_prev (s : State) : (markRefused s).enc_prev = s.enc_prev := rfl
@[simp] theorem markRefused_cw_seen (s : State) : (markRefused s).cw_seen = s.cw_seen := rfl
@[simp] theorem markRefused_ccw_seen (s : State) : (markRefused s).ccw_seen = s.ccw_seen := rfl
@[simp] theorem markRefused_btn_prev (s : State) : (markRefused s).btn_prev = s.btn_prev := rfl
@[simp] theorem markRefused_last_btn (s : State) : (markRefused s).last_btn = s.last_btn := rfl
@[simp] theorem markRefused_last_any (s : State) : (markRefused s).last_any = s.last_any := rfl
@[simp] theorem markRefused_any_accepted (s : State) : (markRefused s).any_accepted = s.any_accepted := rfl
@[simp] theorem markRefused_refused (s : State) : (markRefused s).refused = true := rfl
@[simp] theorem markRefused_cfg (s : State) : (markRefused s).cfg = s.cfg := rfl
@[simp] theorem markRefused_supplied (s : State) : (markRefused s).supplied = s.supplied := rfl
@[simp] theorem markRefused_pending (s : State) : (markRefused s).pending = s.pending := rfl
@[simp] theorem markRefused_reset_asserted (s : State) : (markRefused s).reset_asserted = s.reset_asserted := rfl
@[simp] theorem markRefused_outputs (s : State) : (markRefused s).outputs = s.outputs := rfl
@[simp] theorem markRefused_responses (s : State) : (markRefused s).responses = s.responses := rfl

/-! ## setEnable -/

@[simp] theorem setEnable_bias (e : Effect) (v : Bool) (s : State) : (setEnable e v s).bias = s.bias := rfl
@[simp] theorem setEnable_bias_seeded (e : Effect) (v : Bool) (s : State) :
    (setEnable e v s).bias_seeded = s.bias_seeded := rfl
@[simp] theorem setEnable_hpf_lp (e : Effect) (v : Bool) (s : State) : (setEnable e v s).hpf_lp = s.hpf_lp := rfl
@[simp] theorem setEnable_agc_gain (e : Effect) (v : Bool) (s : State) :
    (setEnable e v s).agc_gain = s.agc_gain := rfl
@[simp] theorem setEnable_buf (e : Effect) (v : Bool) (s : State) : (setEnable e v s).buf = s.buf := rfl
@[simp] theorem setEnable_wr_cursor (e : Effect) (v : Bool) (s : State) :
    (setEnable e v s).wr_cursor = s.wr_cursor := rfl
@[simp] theorem setEnable_samples_written (e : Effect) (v : Bool) (s : State) :
    (setEnable e v s).samples_written = s.samples_written := rfl
@[simp] theorem setEnable_tick_count (e : Effect) (v : Bool) (s : State) :
    (setEnable e v s).tick_count = s.tick_count := rfl
@[simp] theorem setEnable_out_level (e : Effect) (v : Bool) (s : State) :
    (setEnable e v s).out_level = s.out_level := rfl
@[simp] theorem setEnable_en (e : Effect) (v : Bool) (s : State) : (setEnable e v s).en = setEffect s.en e v := rfl
@[simp] theorem setEnable_param (e : Effect) (v : Bool) (s : State) : (setEnable e v s).param = s.param := rfl
@[simp] theorem setEnable_ch_inc (e : Effect) (v : Bool) (s : State) : (setEnable e v s).ch_inc = s.ch_inc := rfl
@[simp] theorem setEnable_trem_inc (e : Effect) (v : Bool) (s : State) :
    (setEnable e v s).trem_inc = s.trem_inc := rfl
@[simp] theorem setEnable_ph_c (e : Effect) (v : Bool) (s : State) : (setEnable e v s).ph_c = s.ph_c := rfl
@[simp] theorem setEnable_ph_t (e : Effect) (v : Bool) (s : State) : (setEnable e v s).ph_t = s.ph_t := rfl
@[simp] theorem setEnable_lp_b (e : Effect) (v : Bool) (s : State) : (setEnable e v s).lp_b = s.lp_b := rfl
@[simp] theorem setEnable_enc_prev (e : Effect) (v : Bool) (s : State) :
    (setEnable e v s).enc_prev = s.enc_prev := rfl
@[simp] theorem setEnable_cw_seen (e : Effect) (v : Bool) (s : State) : (setEnable e v s).cw_seen = s.cw_seen := rfl
@[simp] theorem setEnable_ccw_seen (e : Effect) (v : Bool) (s : State) :
    (setEnable e v s).ccw_seen = s.ccw_seen := rfl
@[simp] theorem setEnable_btn_prev (e : Effect) (v : Bool) (s : State) :
    (setEnable e v s).btn_prev = s.btn_prev := rfl
@[simp] theorem setEnable_last_btn (e : Effect) (v : Bool) (s : State) :
    (setEnable e v s).last_btn = s.last_btn := rfl
@[simp] theorem setEnable_last_any (e : Effect) (v : Bool) (s : State) :
    (setEnable e v s).last_any = s.last_any := rfl
@[simp] theorem setEnable_any_accepted (e : Effect) (v : Bool) (s : State) :
    (setEnable e v s).any_accepted = s.any_accepted := rfl
@[simp] theorem setEnable_refused (e : Effect) (v : Bool) (s : State) : (setEnable e v s).refused = s.refused := rfl
@[simp] theorem setEnable_cfg (e : Effect) (v : Bool) (s : State) : (setEnable e v s).cfg = s.cfg := rfl
@[simp] theorem setEnable_supplied (e : Effect) (v : Bool) (s : State) :
    (setEnable e v s).supplied = s.supplied := rfl
@[simp] theorem setEnable_pending (e : Effect) (v : Bool) (s : State) : (setEnable e v s).pending = s.pending := rfl
@[simp] theorem setEnable_reset_asserted (e : Effect) (v : Bool) (s : State) :
    (setEnable e v s).reset_asserted = s.reset_asserted := rfl
@[simp] theorem setEnable_outputs (e : Effect) (v : Bool) (s : State) : (setEnable e v s).outputs = s.outputs := rfl
@[simp] theorem setEnable_responses (e : Effect) (v : Bool) (s : State) :
    (setEnable e v s).responses = s.responses := rfl

/-! ## acceptPress -/

@[simp] theorem acceptPress_bias (e : Effect) (s : State) : (acceptPress e s).bias = s.bias := rfl
@[simp] theorem acceptPress_bias_seeded (e : Effect) (s : State) :
    (acceptPress e s).bias_seeded = s.bias_seeded := rfl
@[simp] theorem acceptPress_hpf_lp (e : Effect) (s : State) : (acceptPress e s).hpf_lp = s.hpf_lp := rfl
@[simp] theorem acceptPress_agc_gain (e : Effect) (s : State) : (acceptPress e s).agc_gain = s.agc_gain := rfl
@[simp] theorem acceptPress_buf (e : Effect) (s : State) : (acceptPress e s).buf = s.buf := rfl
@[simp] theorem acceptPress_wr_cursor (e : Effect) (s : State) : (acceptPress e s).wr_cursor = s.wr_cursor := rfl
@[simp] theorem acceptPress_samples_written (e : Effect) (s : State) :
    (acceptPress e s).samples_written = s.samples_written := rfl
@[simp] theorem acceptPress_tick_count (e : Effect) (s : State) : (acceptPress e s).tick_count = s.tick_count := rfl
@[simp] theorem acceptPress_out_level (e : Effect) (s : State) : (acceptPress e s).out_level = s.out_level := rfl
@[simp] theorem acceptPress_en (e : Effect) (s : State) :
    (acceptPress e s).en = setEffect s.en e (!getEffect s.en e) := rfl
@[simp] theorem acceptPress_param (e : Effect) (s : State) : (acceptPress e s).param = s.param := rfl
@[simp] theorem acceptPress_ch_inc (e : Effect) (s : State) : (acceptPress e s).ch_inc = s.ch_inc := rfl
@[simp] theorem acceptPress_trem_inc (e : Effect) (s : State) : (acceptPress e s).trem_inc = s.trem_inc := rfl
@[simp] theorem acceptPress_ph_c (e : Effect) (s : State) : (acceptPress e s).ph_c = s.ph_c := rfl
@[simp] theorem acceptPress_ph_t (e : Effect) (s : State) : (acceptPress e s).ph_t = s.ph_t := rfl
@[simp] theorem acceptPress_lp_b (e : Effect) (s : State) : (acceptPress e s).lp_b = s.lp_b := rfl
@[simp] theorem acceptPress_enc_prev (e : Effect) (s : State) : (acceptPress e s).enc_prev = s.enc_prev := rfl
@[simp] theorem acceptPress_cw_seen (e : Effect) (s : State) : (acceptPress e s).cw_seen = s.cw_seen := rfl
@[simp] theorem acceptPress_ccw_seen (e : Effect) (s : State) : (acceptPress e s).ccw_seen = s.ccw_seen := rfl
@[simp] theorem acceptPress_btn_prev (e : Effect) (s : State) : (acceptPress e s).btn_prev = s.btn_prev := rfl
@[simp] theorem acceptPress_last_btn (e : Effect) (s : State) :
    (acceptPress e s).last_btn = setEffect s.last_btn e s.tick_count := rfl
@[simp] theorem acceptPress_last_any (e : Effect) (s : State) : (acceptPress e s).last_any = s.tick_count := rfl
@[simp] theorem acceptPress_any_accepted (e : Effect) (s : State) : (acceptPress e s).any_accepted = true := rfl
@[simp] theorem acceptPress_refused (e : Effect) (s : State) : (acceptPress e s).refused = s.refused := rfl
@[simp] theorem acceptPress_cfg (e : Effect) (s : State) : (acceptPress e s).cfg = s.cfg := rfl
@[simp] theorem acceptPress_supplied (e : Effect) (s : State) : (acceptPress e s).supplied = s.supplied := rfl
@[simp] theorem acceptPress_pending (e : Effect) (s : State) : (acceptPress e s).pending = s.pending := rfl
@[simp] theorem acceptPress_reset_asserted (e : Effect) (s : State) :
    (acceptPress e s).reset_asserted = s.reset_asserted := rfl
@[simp] theorem acceptPress_outputs (e : Effect) (s : State) : (acceptPress e s).outputs = s.outputs := rfl
@[simp] theorem acceptPress_responses (e : Effect) (s : State) : (acceptPress e s).responses = s.responses := rfl

/-! ## latchRotation -/

@[simp] theorem latchRotation_bias (r : BitVec 2) (s : State) : (latchRotation r s).bias = s.bias := rfl
@[simp] theorem latchRotation_bias_seeded (r : BitVec 2) (s : State) :
    (latchRotation r s).bias_seeded = s.bias_seeded := rfl
@[simp] theorem latchRotation_hpf_lp (r : BitVec 2) (s : State) : (latchRotation r s).hpf_lp = s.hpf_lp := rfl
@[simp] theorem latchRotation_agc_gain (r : BitVec 2) (s : State) : (latchRotation r s).agc_gain = s.agc_gain := rfl
@[simp] theorem latchRotation_buf (r : BitVec 2) (s : State) : (latchRotation r s).buf = s.buf := rfl
@[simp] theorem latchRotation_wr_cursor (r : BitVec 2) (s : State) :
    (latchRotation r s).wr_cursor = s.wr_cursor := rfl
@[simp] theorem latchRotation_samples_written (r : BitVec 2) (s : State) :
    (latchRotation r s).samples_written = s.samples_written := rfl
@[simp] theorem latchRotation_tick_count (r : BitVec 2) (s : State) :
    (latchRotation r s).tick_count = s.tick_count := rfl
@[simp] theorem latchRotation_out_level (r : BitVec 2) (s : State) :
    (latchRotation r s).out_level = s.out_level := rfl
@[simp] theorem latchRotation_en (r : BitVec 2) (s : State) : (latchRotation r s).en = s.en := rfl
@[simp] theorem latchRotation_param (r : BitVec 2) (s : State) : (latchRotation r s).param = s.param := rfl
@[simp] theorem latchRotation_ch_inc (r : BitVec 2) (s : State) : (latchRotation r s).ch_inc = s.ch_inc := rfl
@[simp] theorem latchRotation_trem_inc (r : BitVec 2) (s : State) : (latchRotation r s).trem_inc = s.trem_inc := rfl
@[simp] theorem latchRotation_ph_c (r : BitVec 2) (s : State) : (latchRotation r s).ph_c = s.ph_c := rfl
@[simp] theorem latchRotation_ph_t (r : BitVec 2) (s : State) : (latchRotation r s).ph_t = s.ph_t := rfl
@[simp] theorem latchRotation_lp_b (r : BitVec 2) (s : State) : (latchRotation r s).lp_b = s.lp_b := rfl
@[simp] theorem latchRotation_enc_prev (r : BitVec 2) (s : State) : (latchRotation r s).enc_prev = r := rfl
@[simp] theorem latchRotation_cw_seen (r : BitVec 2) (s : State) :
    (latchRotation r s).cw_seen = (s.cw_seen || isCwEvent s.enc_prev r) := rfl
@[simp] theorem latchRotation_ccw_seen (r : BitVec 2) (s : State) :
    (latchRotation r s).ccw_seen = (s.ccw_seen || isCcwEvent s.enc_prev r) := rfl
@[simp] theorem latchRotation_btn_prev (r : BitVec 2) (s : State) : (latchRotation r s).btn_prev = s.btn_prev := rfl
@[simp] theorem latchRotation_last_btn (r : BitVec 2) (s : State) : (latchRotation r s).last_btn = s.last_btn := rfl
@[simp] theorem latchRotation_last_any (r : BitVec 2) (s : State) : (latchRotation r s).last_any = s.last_any := rfl
@[simp] theorem latchRotation_any_accepted (r : BitVec 2) (s : State) :
    (latchRotation r s).any_accepted = s.any_accepted := rfl
@[simp] theorem latchRotation_refused (r : BitVec 2) (s : State) : (latchRotation r s).refused = s.refused := rfl
@[simp] theorem latchRotation_cfg (r : BitVec 2) (s : State) : (latchRotation r s).cfg = s.cfg := rfl
@[simp] theorem latchRotation_supplied (r : BitVec 2) (s : State) : (latchRotation r s).supplied = s.supplied := rfl
@[simp] theorem latchRotation_pending (r : BitVec 2) (s : State) : (latchRotation r s).pending = s.pending := rfl
@[simp] theorem latchRotation_reset_asserted (r : BitVec 2) (s : State) :
    (latchRotation r s).reset_asserted = s.reset_asserted := rfl
@[simp] theorem latchRotation_outputs (r : BitVec 2) (s : State) : (latchRotation r s).outputs = s.outputs := rfl
@[simp] theorem latchRotation_responses (r : BitVec 2) (s : State) :
    (latchRotation r s).responses = s.responses := rfl

/-! ## clearRotation -/

@[simp] theorem clearRotation_bias (s : State) : (clearRotation s).bias = s.bias := rfl
@[simp] theorem clearRotation_bias_seeded (s : State) : (clearRotation s).bias_seeded = s.bias_seeded := rfl
@[simp] theorem clearRotation_hpf_lp (s : State) : (clearRotation s).hpf_lp = s.hpf_lp := rfl
@[simp] theorem clearRotation_agc_gain (s : State) : (clearRotation s).agc_gain = s.agc_gain := rfl
@[simp] theorem clearRotation_buf (s : State) : (clearRotation s).buf = s.buf := rfl
@[simp] theorem clearRotation_wr_cursor (s : State) : (clearRotation s).wr_cursor = s.wr_cursor := rfl
@[simp] theorem clearRotation_samples_written (s : State) :
    (clearRotation s).samples_written = s.samples_written := rfl
@[simp] theorem clearRotation_tick_count (s : State) : (clearRotation s).tick_count = s.tick_count := rfl
@[simp] theorem clearRotation_out_level (s : State) : (clearRotation s).out_level = s.out_level := rfl
@[simp] theorem clearRotation_en (s : State) : (clearRotation s).en = s.en := rfl
@[simp] theorem clearRotation_param (s : State) : (clearRotation s).param = s.param := rfl
@[simp] theorem clearRotation_ch_inc (s : State) : (clearRotation s).ch_inc = s.ch_inc := rfl
@[simp] theorem clearRotation_trem_inc (s : State) : (clearRotation s).trem_inc = s.trem_inc := rfl
@[simp] theorem clearRotation_ph_c (s : State) : (clearRotation s).ph_c = s.ph_c := rfl
@[simp] theorem clearRotation_ph_t (s : State) : (clearRotation s).ph_t = s.ph_t := rfl
@[simp] theorem clearRotation_lp_b (s : State) : (clearRotation s).lp_b = s.lp_b := rfl
@[simp] theorem clearRotation_enc_prev (s : State) : (clearRotation s).enc_prev = s.enc_prev := rfl
@[simp] theorem clearRotation_cw_seen (s : State) : (clearRotation s).cw_seen = false := rfl
@[simp] theorem clearRotation_ccw_seen (s : State) : (clearRotation s).ccw_seen = false := rfl
@[simp] theorem clearRotation_btn_prev (s : State) : (clearRotation s).btn_prev = s.btn_prev := rfl
@[simp] theorem clearRotation_last_btn (s : State) : (clearRotation s).last_btn = s.last_btn := rfl
@[simp] theorem clearRotation_last_any (s : State) : (clearRotation s).last_any = s.last_any := rfl
@[simp] theorem clearRotation_any_accepted (s : State) : (clearRotation s).any_accepted = s.any_accepted := rfl
@[simp] theorem clearRotation_refused (s : State) : (clearRotation s).refused = s.refused := rfl
@[simp] theorem clearRotation_cfg (s : State) : (clearRotation s).cfg = s.cfg := rfl
@[simp] theorem clearRotation_supplied (s : State) : (clearRotation s).supplied = s.supplied := rfl
@[simp] theorem clearRotation_pending (s : State) : (clearRotation s).pending = s.pending := rfl
@[simp] theorem clearRotation_reset_asserted (s : State) : (clearRotation s).reset_asserted = s.reset_asserted := rfl
@[simp] theorem clearRotation_outputs (s : State) : (clearRotation s).outputs = s.outputs := rfl
@[simp] theorem clearRotation_responses (s : State) : (clearRotation s).responses = s.responses := rfl

/-! ## bufWrite -/

@[simp] theorem bufWrite_bias (i : Nat) (v : Int) (s : State) : (bufWrite i v s).bias = s.bias := rfl
@[simp] theorem bufWrite_bias_seeded (i : Nat) (v : Int) (s : State) :
    (bufWrite i v s).bias_seeded = s.bias_seeded := rfl
@[simp] theorem bufWrite_hpf_lp (i : Nat) (v : Int) (s : State) : (bufWrite i v s).hpf_lp = s.hpf_lp := rfl
@[simp] theorem bufWrite_agc_gain (i : Nat) (v : Int) (s : State) : (bufWrite i v s).agc_gain = s.agc_gain := rfl
@[simp] theorem bufWrite_buf (i : Nat) (v : Int) (s : State) :
    (bufWrite i v s).buf = Memory.write s.buf (ringSlot s i) (toReg 32 v) := rfl
@[simp] theorem bufWrite_wr_cursor (i : Nat) (v : Int) (s : State) : (bufWrite i v s).wr_cursor = s.wr_cursor := rfl
@[simp] theorem bufWrite_samples_written (i : Nat) (v : Int) (s : State) :
    (bufWrite i v s).samples_written = s.samples_written := rfl
@[simp] theorem bufWrite_tick_count (i : Nat) (v : Int) (s : State) :
    (bufWrite i v s).tick_count = s.tick_count := rfl
@[simp] theorem bufWrite_out_level (i : Nat) (v : Int) (s : State) : (bufWrite i v s).out_level = s.out_level := rfl
@[simp] theorem bufWrite_en (i : Nat) (v : Int) (s : State) : (bufWrite i v s).en = s.en := rfl
@[simp] theorem bufWrite_param (i : Nat) (v : Int) (s : State) : (bufWrite i v s).param = s.param := rfl
@[simp] theorem bufWrite_ch_inc (i : Nat) (v : Int) (s : State) : (bufWrite i v s).ch_inc = s.ch_inc := rfl
@[simp] theorem bufWrite_trem_inc (i : Nat) (v : Int) (s : State) : (bufWrite i v s).trem_inc = s.trem_inc := rfl
@[simp] theorem bufWrite_ph_c (i : Nat) (v : Int) (s : State) : (bufWrite i v s).ph_c = s.ph_c := rfl
@[simp] theorem bufWrite_ph_t (i : Nat) (v : Int) (s : State) : (bufWrite i v s).ph_t = s.ph_t := rfl
@[simp] theorem bufWrite_lp_b (i : Nat) (v : Int) (s : State) : (bufWrite i v s).lp_b = s.lp_b := rfl
@[simp] theorem bufWrite_enc_prev (i : Nat) (v : Int) (s : State) : (bufWrite i v s).enc_prev = s.enc_prev := rfl
@[simp] theorem bufWrite_cw_seen (i : Nat) (v : Int) (s : State) : (bufWrite i v s).cw_seen = s.cw_seen := rfl
@[simp] theorem bufWrite_ccw_seen (i : Nat) (v : Int) (s : State) : (bufWrite i v s).ccw_seen = s.ccw_seen := rfl
@[simp] theorem bufWrite_btn_prev (i : Nat) (v : Int) (s : State) : (bufWrite i v s).btn_prev = s.btn_prev := rfl
@[simp] theorem bufWrite_last_btn (i : Nat) (v : Int) (s : State) : (bufWrite i v s).last_btn = s.last_btn := rfl
@[simp] theorem bufWrite_last_any (i : Nat) (v : Int) (s : State) : (bufWrite i v s).last_any = s.last_any := rfl
@[simp] theorem bufWrite_any_accepted (i : Nat) (v : Int) (s : State) :
    (bufWrite i v s).any_accepted = s.any_accepted := rfl
@[simp] theorem bufWrite_refused (i : Nat) (v : Int) (s : State) : (bufWrite i v s).refused = s.refused := rfl
@[simp] theorem bufWrite_cfg (i : Nat) (v : Int) (s : State) : (bufWrite i v s).cfg = s.cfg := rfl
@[simp] theorem bufWrite_supplied (i : Nat) (v : Int) (s : State) : (bufWrite i v s).supplied = s.supplied := rfl
@[simp] theorem bufWrite_pending (i : Nat) (v : Int) (s : State) : (bufWrite i v s).pending = s.pending := rfl
@[simp] theorem bufWrite_reset_asserted (i : Nat) (v : Int) (s : State) :
    (bufWrite i v s).reset_asserted = s.reset_asserted := rfl
@[simp] theorem bufWrite_outputs (i : Nat) (v : Int) (s : State) : (bufWrite i v s).outputs = s.outputs := rfl
@[simp] theorem bufWrite_responses (i : Nat) (v : Int) (s : State) : (bufWrite i v s).responses = s.responses := rfl

/-! ## emitOut -/

@[simp] theorem emitOut_bias (v : BitVec 32) (s : State) : (emitOut v s).bias = s.bias := rfl
@[simp] theorem emitOut_bias_seeded (v : BitVec 32) (s : State) : (emitOut v s).bias_seeded = s.bias_seeded := rfl
@[simp] theorem emitOut_hpf_lp (v : BitVec 32) (s : State) : (emitOut v s).hpf_lp = s.hpf_lp := rfl
@[simp] theorem emitOut_agc_gain (v : BitVec 32) (s : State) : (emitOut v s).agc_gain = s.agc_gain := rfl
@[simp] theorem emitOut_buf (v : BitVec 32) (s : State) : (emitOut v s).buf = s.buf := rfl
@[simp] theorem emitOut_wr_cursor (v : BitVec 32) (s : State) : (emitOut v s).wr_cursor = s.wr_cursor := rfl
@[simp] theorem emitOut_samples_written (v : BitVec 32) (s : State) :
    (emitOut v s).samples_written = s.samples_written := rfl
@[simp] theorem emitOut_tick_count (v : BitVec 32) (s : State) : (emitOut v s).tick_count = s.tick_count := rfl
@[simp] theorem emitOut_out_level (v : BitVec 32) (s : State) : (emitOut v s).out_level = s.out_level := rfl
@[simp] theorem emitOut_en (v : BitVec 32) (s : State) : (emitOut v s).en = s.en := rfl
@[simp] theorem emitOut_param (v : BitVec 32) (s : State) : (emitOut v s).param = s.param := rfl
@[simp] theorem emitOut_ch_inc (v : BitVec 32) (s : State) : (emitOut v s).ch_inc = s.ch_inc := rfl
@[simp] theorem emitOut_trem_inc (v : BitVec 32) (s : State) : (emitOut v s).trem_inc = s.trem_inc := rfl
@[simp] theorem emitOut_ph_c (v : BitVec 32) (s : State) : (emitOut v s).ph_c = s.ph_c := rfl
@[simp] theorem emitOut_ph_t (v : BitVec 32) (s : State) : (emitOut v s).ph_t = s.ph_t := rfl
@[simp] theorem emitOut_lp_b (v : BitVec 32) (s : State) : (emitOut v s).lp_b = s.lp_b := rfl
@[simp] theorem emitOut_enc_prev (v : BitVec 32) (s : State) : (emitOut v s).enc_prev = s.enc_prev := rfl
@[simp] theorem emitOut_cw_seen (v : BitVec 32) (s : State) : (emitOut v s).cw_seen = s.cw_seen := rfl
@[simp] theorem emitOut_ccw_seen (v : BitVec 32) (s : State) : (emitOut v s).ccw_seen = s.ccw_seen := rfl
@[simp] theorem emitOut_btn_prev (v : BitVec 32) (s : State) : (emitOut v s).btn_prev = s.btn_prev := rfl
@[simp] theorem emitOut_last_btn (v : BitVec 32) (s : State) : (emitOut v s).last_btn = s.last_btn := rfl
@[simp] theorem emitOut_last_any (v : BitVec 32) (s : State) : (emitOut v s).last_any = s.last_any := rfl
@[simp] theorem emitOut_any_accepted (v : BitVec 32) (s : State) : (emitOut v s).any_accepted = s.any_accepted := rfl
@[simp] theorem emitOut_refused (v : BitVec 32) (s : State) : (emitOut v s).refused = s.refused := rfl
@[simp] theorem emitOut_cfg (v : BitVec 32) (s : State) : (emitOut v s).cfg = s.cfg := rfl
@[simp] theorem emitOut_supplied (v : BitVec 32) (s : State) : (emitOut v s).supplied = s.supplied := rfl
@[simp] theorem emitOut_pending (v : BitVec 32) (s : State) : (emitOut v s).pending = s.pending := rfl
@[simp] theorem emitOut_reset_asserted (v : BitVec 32) (s : State) :
    (emitOut v s).reset_asserted = s.reset_asserted := rfl
@[simp] theorem emitOut_outputs (v : BitVec 32) (s : State) : (emitOut v s).outputs = s.outputs ++ [v] := rfl
@[simp] theorem emitOut_responses (v : BitVec 32) (s : State) : (emitOut v s).responses = s.responses := rfl

/-! ## respond -/

@[simp] theorem respond_bias (v : Response) (s : State) : (respond v s).bias = s.bias := rfl
@[simp] theorem respond_bias_seeded (v : Response) (s : State) : (respond v s).bias_seeded = s.bias_seeded := rfl
@[simp] theorem respond_hpf_lp (v : Response) (s : State) : (respond v s).hpf_lp = s.hpf_lp := rfl
@[simp] theorem respond_agc_gain (v : Response) (s : State) : (respond v s).agc_gain = s.agc_gain := rfl
@[simp] theorem respond_buf (v : Response) (s : State) : (respond v s).buf = s.buf := rfl
@[simp] theorem respond_wr_cursor (v : Response) (s : State) : (respond v s).wr_cursor = s.wr_cursor := rfl
@[simp] theorem respond_samples_written (v : Response) (s : State) :
    (respond v s).samples_written = s.samples_written := rfl
@[simp] theorem respond_tick_count (v : Response) (s : State) : (respond v s).tick_count = s.tick_count := rfl
@[simp] theorem respond_out_level (v : Response) (s : State) : (respond v s).out_level = s.out_level := rfl
@[simp] theorem respond_en (v : Response) (s : State) : (respond v s).en = s.en := rfl
@[simp] theorem respond_param (v : Response) (s : State) : (respond v s).param = s.param := rfl
@[simp] theorem respond_ch_inc (v : Response) (s : State) : (respond v s).ch_inc = s.ch_inc := rfl
@[simp] theorem respond_trem_inc (v : Response) (s : State) : (respond v s).trem_inc = s.trem_inc := rfl
@[simp] theorem respond_ph_c (v : Response) (s : State) : (respond v s).ph_c = s.ph_c := rfl
@[simp] theorem respond_ph_t (v : Response) (s : State) : (respond v s).ph_t = s.ph_t := rfl
@[simp] theorem respond_lp_b (v : Response) (s : State) : (respond v s).lp_b = s.lp_b := rfl
@[simp] theorem respond_enc_prev (v : Response) (s : State) : (respond v s).enc_prev = s.enc_prev := rfl
@[simp] theorem respond_cw_seen (v : Response) (s : State) : (respond v s).cw_seen = s.cw_seen := rfl
@[simp] theorem respond_ccw_seen (v : Response) (s : State) : (respond v s).ccw_seen = s.ccw_seen := rfl
@[simp] theorem respond_btn_prev (v : Response) (s : State) : (respond v s).btn_prev = s.btn_prev := rfl
@[simp] theorem respond_last_btn (v : Response) (s : State) : (respond v s).last_btn = s.last_btn := rfl
@[simp] theorem respond_last_any (v : Response) (s : State) : (respond v s).last_any = s.last_any := rfl
@[simp] theorem respond_any_accepted (v : Response) (s : State) : (respond v s).any_accepted = s.any_accepted := rfl
@[simp] theorem respond_refused (v : Response) (s : State) : (respond v s).refused = s.refused := rfl
@[simp] theorem respond_cfg (v : Response) (s : State) : (respond v s).cfg = s.cfg := rfl
@[simp] theorem respond_supplied (v : Response) (s : State) : (respond v s).supplied = s.supplied := rfl
@[simp] theorem respond_pending (v : Response) (s : State) : (respond v s).pending = s.pending := rfl
@[simp] theorem respond_reset_asserted (v : Response) (s : State) :
    (respond v s).reset_asserted = s.reset_asserted := rfl
@[simp] theorem respond_outputs (v : Response) (s : State) : (respond v s).outputs = s.outputs := rfl
@[simp] theorem respond_responses (v : Response) (s : State) : (respond v s).responses = s.responses ++ [v] := rfl

/-! ## setParamReg -/

@[simp] theorem setParamReg_bias (p : Param) (v : Int) (s : State) : (setParamReg p v s).bias = s.bias := rfl
@[simp] theorem setParamReg_bias_seeded (p : Param) (v : Int) (s : State) :
    (setParamReg p v s).bias_seeded = s.bias_seeded := rfl
@[simp] theorem setParamReg_hpf_lp (p : Param) (v : Int) (s : State) : (setParamReg p v s).hpf_lp = s.hpf_lp := rfl
@[simp] theorem setParamReg_agc_gain (p : Param) (v : Int) (s : State) :
    (setParamReg p v s).agc_gain = s.agc_gain := rfl
@[simp] theorem setParamReg_buf (p : Param) (v : Int) (s : State) : (setParamReg p v s).buf = s.buf := rfl
@[simp] theorem setParamReg_wr_cursor (p : Param) (v : Int) (s : State) :
    (setParamReg p v s).wr_cursor = s.wr_cursor := rfl
@[simp] theorem setParamReg_samples_written (p : Param) (v : Int) (s : State) :
    (setParamReg p v s).samples_written = s.samples_written := rfl
@[simp] theorem setParamReg_tick_count (p : Param) (v : Int) (s : State) :
    (setParamReg p v s).tick_count = s.tick_count := rfl
@[simp] theorem setParamReg_out_level (p : Param) (v : Int) (s : State) :
    (setParamReg p v s).out_level = s.out_level := rfl
@[simp] theorem setParamReg_en (p : Param) (v : Int) (s : State) : (setParamReg p v s).en = s.en := rfl
@[simp] theorem setParamReg_param (p : Param) (v : Int) (s : State) :
    (setParamReg p v s).param = setParam s.param p (toReg 32 v) := rfl
@[simp] theorem setParamReg_ch_inc (p : Param) (v : Int) (s : State) : (setParamReg p v s).ch_inc = s.ch_inc := rfl
@[simp] theorem setParamReg_trem_inc (p : Param) (v : Int) (s : State) :
    (setParamReg p v s).trem_inc = s.trem_inc := rfl
@[simp] theorem setParamReg_ph_c (p : Param) (v : Int) (s : State) : (setParamReg p v s).ph_c = s.ph_c := rfl
@[simp] theorem setParamReg_ph_t (p : Param) (v : Int) (s : State) : (setParamReg p v s).ph_t = s.ph_t := rfl
@[simp] theorem setParamReg_lp_b (p : Param) (v : Int) (s : State) : (setParamReg p v s).lp_b = s.lp_b := rfl
@[simp] theorem setParamReg_enc_prev (p : Param) (v : Int) (s : State) :
    (setParamReg p v s).enc_prev = s.enc_prev := rfl
@[simp] theorem setParamReg_cw_seen (p : Param) (v : Int) (s : State) : (setParamReg p v s).cw_seen = s.cw_seen := rfl
@[simp] theorem setParamReg_ccw_seen (p : Param) (v : Int) (s : State) :
    (setParamReg p v s).ccw_seen = s.ccw_seen := rfl
@[simp] theorem setParamReg_btn_prev (p : Param) (v : Int) (s : State) :
    (setParamReg p v s).btn_prev = s.btn_prev := rfl
@[simp] theorem setParamReg_last_btn (p : Param) (v : Int) (s : State) :
    (setParamReg p v s).last_btn = s.last_btn := rfl
@[simp] theorem setParamReg_last_any (p : Param) (v : Int) (s : State) :
    (setParamReg p v s).last_any = s.last_any := rfl
@[simp] theorem setParamReg_any_accepted (p : Param) (v : Int) (s : State) :
    (setParamReg p v s).any_accepted = s.any_accepted := rfl
@[simp] theorem setParamReg_refused (p : Param) (v : Int) (s : State) : (setParamReg p v s).refused = s.refused := rfl
@[simp] theorem setParamReg_cfg (p : Param) (v : Int) (s : State) : (setParamReg p v s).cfg = s.cfg := rfl
@[simp] theorem setParamReg_supplied (p : Param) (v : Int) (s : State) :
    (setParamReg p v s).supplied = s.supplied := rfl
@[simp] theorem setParamReg_pending (p : Param) (v : Int) (s : State) : (setParamReg p v s).pending = s.pending := rfl
@[simp] theorem setParamReg_reset_asserted (p : Param) (v : Int) (s : State) :
    (setParamReg p v s).reset_asserted = s.reset_asserted := rfl
@[simp] theorem setParamReg_outputs (p : Param) (v : Int) (s : State) : (setParamReg p v s).outputs = s.outputs := rfl
@[simp] theorem setParamReg_responses (p : Param) (v : Int) (s : State) :
    (setParamReg p v s).responses = s.responses := rfl

/-! ## countTick -/

@[simp] theorem countTick_bias (s : State) : (countTick s).bias = s.bias := rfl
@[simp] theorem countTick_bias_seeded (s : State) : (countTick s).bias_seeded = s.bias_seeded := rfl
@[simp] theorem countTick_hpf_lp (s : State) : (countTick s).hpf_lp = s.hpf_lp := rfl
@[simp] theorem countTick_agc_gain (s : State) : (countTick s).agc_gain = s.agc_gain := rfl
@[simp] theorem countTick_buf (s : State) : (countTick s).buf = s.buf := rfl
@[simp] theorem countTick_wr_cursor (s : State) : (countTick s).wr_cursor = s.wr_cursor := rfl
@[simp] theorem countTick_samples_written (s : State) : (countTick s).samples_written = s.samples_written := rfl
@[simp] theorem countTick_tick_count (s : State) : (countTick s).tick_count = s.tick_count + 1 := rfl
@[simp] theorem countTick_out_level (s : State) : (countTick s).out_level = s.out_level := rfl
@[simp] theorem countTick_en (s : State) : (countTick s).en = s.en := rfl
@[simp] theorem countTick_param (s : State) : (countTick s).param = s.param := rfl
@[simp] theorem countTick_ch_inc (s : State) : (countTick s).ch_inc = s.ch_inc := rfl
@[simp] theorem countTick_trem_inc (s : State) : (countTick s).trem_inc = s.trem_inc := rfl
@[simp] theorem countTick_ph_c (s : State) : (countTick s).ph_c = s.ph_c := rfl
@[simp] theorem countTick_ph_t (s : State) : (countTick s).ph_t = s.ph_t := rfl
@[simp] theorem countTick_lp_b (s : State) : (countTick s).lp_b = s.lp_b := rfl
@[simp] theorem countTick_enc_prev (s : State) : (countTick s).enc_prev = s.enc_prev := rfl
@[simp] theorem countTick_cw_seen (s : State) : (countTick s).cw_seen = s.cw_seen := rfl
@[simp] theorem countTick_ccw_seen (s : State) : (countTick s).ccw_seen = s.ccw_seen := rfl
@[simp] theorem countTick_btn_prev (s : State) : (countTick s).btn_prev = s.btn_prev := rfl
@[simp] theorem countTick_last_btn (s : State) : (countTick s).last_btn = s.last_btn := rfl
@[simp] theorem countTick_last_any (s : State) : (countTick s).last_any = s.last_any := rfl
@[simp] theorem countTick_any_accepted (s : State) : (countTick s).any_accepted = s.any_accepted := rfl
@[simp] theorem countTick_refused (s : State) : (countTick s).refused = s.refused := rfl
@[simp] theorem countTick_cfg (s : State) : (countTick s).cfg = s.cfg := rfl
@[simp] theorem countTick_supplied (s : State) : (countTick s).supplied = s.supplied := rfl
@[simp] theorem countTick_pending (s : State) : (countTick s).pending = s.pending := rfl
@[simp] theorem countTick_reset_asserted (s : State) : (countTick s).reset_asserted = s.reset_asserted := rfl
@[simp] theorem countTick_outputs (s : State) : (countTick s).outputs = s.outputs := rfl
@[simp] theorem countTick_responses (s : State) : (countTick s).responses = s.responses := rfl

/-! ## putOut -/

@[simp] theorem putOut_bias (u : Int) (s : State) : (putOut u s).bias = s.bias := rfl
@[simp] theorem putOut_bias_seeded (u : Int) (s : State) : (putOut u s).bias_seeded = s.bias_seeded := rfl
@[simp] theorem putOut_hpf_lp (u : Int) (s : State) : (putOut u s).hpf_lp = s.hpf_lp := rfl
@[simp] theorem putOut_agc_gain (u : Int) (s : State) : (putOut u s).agc_gain = s.agc_gain := rfl
@[simp] theorem putOut_buf (u : Int) (s : State) : (putOut u s).buf = s.buf := rfl
@[simp] theorem putOut_wr_cursor (u : Int) (s : State) : (putOut u s).wr_cursor = s.wr_cursor := rfl
@[simp] theorem putOut_samples_written (u : Int) (s : State) : (putOut u s).samples_written = s.samples_written := rfl
@[simp] theorem putOut_tick_count (u : Int) (s : State) : (putOut u s).tick_count = s.tick_count := rfl
@[simp] theorem putOut_out_level (u : Int) (s : State) : (putOut u s).out_level = toReg 32 u := rfl
@[simp] theorem putOut_en (u : Int) (s : State) : (putOut u s).en = s.en := rfl
@[simp] theorem putOut_param (u : Int) (s : State) : (putOut u s).param = s.param := rfl
@[simp] theorem putOut_ch_inc (u : Int) (s : State) : (putOut u s).ch_inc = s.ch_inc := rfl
@[simp] theorem putOut_trem_inc (u : Int) (s : State) : (putOut u s).trem_inc = s.trem_inc := rfl
@[simp] theorem putOut_ph_c (u : Int) (s : State) : (putOut u s).ph_c = s.ph_c := rfl
@[simp] theorem putOut_ph_t (u : Int) (s : State) : (putOut u s).ph_t = s.ph_t := rfl
@[simp] theorem putOut_lp_b (u : Int) (s : State) : (putOut u s).lp_b = s.lp_b := rfl
@[simp] theorem putOut_enc_prev (u : Int) (s : State) : (putOut u s).enc_prev = s.enc_prev := rfl
@[simp] theorem putOut_cw_seen (u : Int) (s : State) : (putOut u s).cw_seen = s.cw_seen := rfl
@[simp] theorem putOut_ccw_seen (u : Int) (s : State) : (putOut u s).ccw_seen = s.ccw_seen := rfl
@[simp] theorem putOut_btn_prev (u : Int) (s : State) : (putOut u s).btn_prev = s.btn_prev := rfl
@[simp] theorem putOut_last_btn (u : Int) (s : State) : (putOut u s).last_btn = s.last_btn := rfl
@[simp] theorem putOut_last_any (u : Int) (s : State) : (putOut u s).last_any = s.last_any := rfl
@[simp] theorem putOut_any_accepted (u : Int) (s : State) : (putOut u s).any_accepted = s.any_accepted := rfl
@[simp] theorem putOut_refused (u : Int) (s : State) : (putOut u s).refused = s.refused := rfl
@[simp] theorem putOut_cfg (u : Int) (s : State) : (putOut u s).cfg = s.cfg := rfl
@[simp] theorem putOut_supplied (u : Int) (s : State) : (putOut u s).supplied = s.supplied := rfl
@[simp] theorem putOut_pending (u : Int) (s : State) : (putOut u s).pending = s.pending := rfl
@[simp] theorem putOut_reset_asserted (u : Int) (s : State) : (putOut u s).reset_asserted = s.reset_asserted := rfl
@[simp] theorem putOut_outputs (u : Int) (s : State) : (putOut u s).outputs = s.outputs ++ [toReg 32 u] := rfl
@[simp] theorem putOut_responses (u : Int) (s : State) : (putOut u s).responses = s.responses := rfl

/-! ## ringWrite -/

@[simp] theorem ringWrite_bias (c : Int) (w0 sw : Nat) (s : State) : (ringWrite c w0 sw s).bias = s.bias := rfl
@[simp] theorem ringWrite_bias_seeded (c : Int) (w0 sw : Nat) (s : State) :
    (ringWrite c w0 sw s).bias_seeded = s.bias_seeded := rfl
@[simp] theorem ringWrite_hpf_lp (c : Int) (w0 sw : Nat) (s : State) : (ringWrite c w0 sw s).hpf_lp = s.hpf_lp := rfl
@[simp] theorem ringWrite_agc_gain (c : Int) (w0 sw : Nat) (s : State) :
    (ringWrite c w0 sw s).agc_gain = s.agc_gain := rfl
@[simp] theorem ringWrite_buf (c : Int) (w0 sw : Nat) (s : State) :
    (ringWrite c w0 sw s).buf = Memory.write s.buf (ringSlot s w0) (toReg 32 c) := rfl
@[simp] theorem ringWrite_wr_cursor (c : Int) (w0 sw : Nat) (s : State) :
    (ringWrite c w0 sw s).wr_cursor = toReg 32 (((w0 + 1) % s.cfg.BUF_N : Nat) : Int) := rfl
@[simp] theorem ringWrite_samples_written (c : Int) (w0 sw : Nat) (s : State) :
    (ringWrite c w0 sw s).samples_written = toReg 32 ((min (sw + 1) s.cfg.BUF_N : Nat) : Int) := rfl
@[simp] theorem ringWrite_tick_count (c : Int) (w0 sw : Nat) (s : State) :
    (ringWrite c w0 sw s).tick_count = s.tick_count := rfl
@[simp] theorem ringWrite_out_level (c : Int) (w0 sw : Nat) (s : State) :
    (ringWrite c w0 sw s).out_level = s.out_level := rfl
@[simp] theorem ringWrite_en (c : Int) (w0 sw : Nat) (s : State) : (ringWrite c w0 sw s).en = s.en := rfl
@[simp] theorem ringWrite_param (c : Int) (w0 sw : Nat) (s : State) : (ringWrite c w0 sw s).param = s.param := rfl
@[simp] theorem ringWrite_ch_inc (c : Int) (w0 sw : Nat) (s : State) : (ringWrite c w0 sw s).ch_inc = s.ch_inc := rfl
@[simp] theorem ringWrite_trem_inc (c : Int) (w0 sw : Nat) (s : State) :
    (ringWrite c w0 sw s).trem_inc = s.trem_inc := rfl
@[simp] theorem ringWrite_ph_c (c : Int) (w0 sw : Nat) (s : State) : (ringWrite c w0 sw s).ph_c = s.ph_c := rfl
@[simp] theorem ringWrite_ph_t (c : Int) (w0 sw : Nat) (s : State) : (ringWrite c w0 sw s).ph_t = s.ph_t := rfl
@[simp] theorem ringWrite_lp_b (c : Int) (w0 sw : Nat) (s : State) : (ringWrite c w0 sw s).lp_b = s.lp_b := rfl
@[simp] theorem ringWrite_enc_prev (c : Int) (w0 sw : Nat) (s : State) :
    (ringWrite c w0 sw s).enc_prev = s.enc_prev := rfl
@[simp] theorem ringWrite_cw_seen (c : Int) (w0 sw : Nat) (s : State) :
    (ringWrite c w0 sw s).cw_seen = s.cw_seen := rfl
@[simp] theorem ringWrite_ccw_seen (c : Int) (w0 sw : Nat) (s : State) :
    (ringWrite c w0 sw s).ccw_seen = s.ccw_seen := rfl
@[simp] theorem ringWrite_btn_prev (c : Int) (w0 sw : Nat) (s : State) :
    (ringWrite c w0 sw s).btn_prev = s.btn_prev := rfl
@[simp] theorem ringWrite_last_btn (c : Int) (w0 sw : Nat) (s : State) :
    (ringWrite c w0 sw s).last_btn = s.last_btn := rfl
@[simp] theorem ringWrite_last_any (c : Int) (w0 sw : Nat) (s : State) :
    (ringWrite c w0 sw s).last_any = s.last_any := rfl
@[simp] theorem ringWrite_any_accepted (c : Int) (w0 sw : Nat) (s : State) :
    (ringWrite c w0 sw s).any_accepted = s.any_accepted := rfl
@[simp] theorem ringWrite_refused (c : Int) (w0 sw : Nat) (s : State) :
    (ringWrite c w0 sw s).refused = s.refused := rfl
@[simp] theorem ringWrite_cfg (c : Int) (w0 sw : Nat) (s : State) : (ringWrite c w0 sw s).cfg = s.cfg := rfl
@[simp] theorem ringWrite_supplied (c : Int) (w0 sw : Nat) (s : State) :
    (ringWrite c w0 sw s).supplied = s.supplied := rfl
@[simp] theorem ringWrite_pending (c : Int) (w0 sw : Nat) (s : State) :
    (ringWrite c w0 sw s).pending = s.pending := rfl
@[simp] theorem ringWrite_reset_asserted (c : Int) (w0 sw : Nat) (s : State) :
    (ringWrite c w0 sw s).reset_asserted = s.reset_asserted := rfl
@[simp] theorem ringWrite_outputs (c : Int) (w0 sw : Nat) (s : State) :
    (ringWrite c w0 sw s).outputs = s.outputs := rfl
@[simp] theorem ringWrite_responses (c : Int) (w0 sw : Nat) (s : State) :
    (ringWrite c w0 sw s).responses = s.responses := rfl

end Sys2Proof.Machine
end

