-- ==== Sys2Proof/Laws/Ops.lean ====
section
/-! SUPPORT. One lemma per shared operation that says everything it can do; later proofs cite these and do not unfold the
operations. -/

namespace Sys2Proof.Machine

/-! ## Indexed fields (spec/10_state.md R55: no index of one addresses another) -/

@[simp] theorem getEffect_setEffect {α : Type} (f : PerEffect α) (e e' : Effect) (v : α) :
    getEffect (setEffect f e v) e' = if e' = e then v else getEffect f e' := by
  cases e <;> cases e' <;> rfl

@[simp] theorem getParam_setParam {α : Type} (f : PerParam α) (p q : Param) (v : α) :
    getParam (setParam f p v) q = if q = p then v else getParam f q := by
  cases p <;> cases q <;> rfl

/-- Two indexed fields that read alike are equal. -/
theorem perEffect_ext {α : Type} {f g : PerEffect α} (h : ∀ e, getEffect f e = getEffect g e) : f = g := by
  cases f; cases g
  have h0 := h .delay; have h1 := h .chorus; have h2 := h .tremolo; have h3 := h .bass; have h4 := h .reverb
  simp only [getEffect] at h0 h1 h2 h3 h4
  subst h0 h1 h2 h3 h4; rfl

/-! ## Parameters (spec/46_dispatch.md R260) -/

/-- All that a parameter write does. -/
theorem paramWrite_eq (p : Param) (v : Int) (s : State) :
    paramWrite p v s =
      { s with
        param := setParam s.param p (toReg 32 (clamp v (rangeOf s p).MIN (rangeOf s p).MAX))
        ch_inc := if p = .chorusRate then inc s.cfg.RATE_DIV (paramVal (paramWrite p v s) p) else s.ch_inc
        trem_inc := if p = .tremRate then inc s.cfg.RATE_DIV (paramVal (paramWrite p v s) p) else s.trem_inc } := by
  cases p <;> rfl

/-- Every range of a legal configuration is one of nonempty ranges of 32-bit values. -/
theorem rangeOf_bounds (s : State) (p : Param) :
    0 ≤ (rangeOf s p).MIN ∧ (rangeOf s p).MIN ≤ (rangeOf s p).INIT ∧ (rangeOf s p).INIT ≤ (rangeOf s p).MAX ∧
      (rangeOf s p).MAX ≤ 2 ^ 31 - 1 := by
  have hr := s.cfg.relations
  have hN := s.cfg.BUF_N_le
  have hD := s.cfg.RATE_DIV_le
  cases p <;> simp only [rangeOf, getParam] <;> omega

/-- The parameter written holds the clamped value; every other parameter is as before. -/
theorem paramVal_paramWrite (p q : Param) (v : Int) (s : State) :
    paramVal (paramWrite p v s) q =
      if q = p then max (rangeOf s p).MIN (min (rangeOf s p).MAX v) else paramVal s q := by
  have hb := rangeOf_bounds s p
  have hp : (paramWrite p v s).param =
      setParam s.param p (toReg 32 (clamp v (rangeOf s p).MIN (rangeOf s p).MAX)) := by cases p <;> rfl
  have hm := clamp_mem (v := v) (le_trans hb.2.1 hb.2.2.1)
  rw [paramVal, hp, getParam_setParam]
  split
  · rw [toReg32_toInt (by omega) (by omega), clamp_eq_max_min (by omega)]
  · rfl

/-- All that a rotation does: nothing, or one parameter write for the first enabled effect (R258, R261, R262). -/
theorem rotDispatch_cases (dir : Int) (s : State) :
    (priorityEffect s.en = none ∧ rotDispatch dir s = s) ∨
    ∃ e, priorityEffect s.en = some e ∧ rotDispatch dir s =
      paramWrite (relParam e) (paramVal s (relParam e) + dir * (rangeOf s (relParam e)).STEP) s := by
  unfold rotDispatch
  cases h : priorityEffect s.en with
  | none => exact .inl ⟨rfl, rfl⟩
  | some e => exact .inr ⟨e, rfl, rfl⟩

/-- No effect is first exactly when none is enabled. -/
theorem priorityEffect_eq_none {en : PerEffect Bool} :
    priorityEffect en = none ↔ ∀ e, getEffect en e = false := by
  obtain ⟨d, c, t, b, r⟩ := en
  constructor
  · intro h e
    revert h
    cases d <;> cases c <;> cases t <;> cases b <;> cases r <;> cases e <;> simp [priorityEffect, getEffect]
  · intro h
    have h0 := h .delay; have h1 := h .chorus; have h2 := h .tremolo; have h3 := h .bass; have h4 := h .reverb
    simp only [getEffect] at h0 h1 h2 h3 h4
    simp [priorityEffect, h0, h1, h2, h3, h4]

/-- The first effect is the enabled one with no enabled effect before it. -/
theorem priorityEffect_eq_some {en : PerEffect Bool} {e : Effect} (h : getEffect en e = true)
    (hb : ∀ e', e'.id.toNat < e.id.toNat → getEffect en e' = false) : priorityEffect en = some e := by
  have h0 := hb .delay; have h1 := hb .chorus; have h2 := hb .tremolo; have h3 := hb .bass
  cases e <;> simp_all [getEffect, Effect.id, priorityEffect]

/-! ## The ring -/

/-- A ring slot is a slot of the ring. -/
theorem ringSlot_lt (s : State) (i : Nat) : ringSlot s i < s.cfg.BUF_N := Nat.mod_lt _ s.cfg.BUF_N_pos

/-- An index of the ring stands for itself. -/
theorem ringSlot_of_lt {s : State} {i : Nat} (h : i < s.cfg.BUF_N) : ringSlot s i = i := Nat.mod_eq_of_lt h

/-- The slot behind the cursor, without the modulus (R170). -/
theorem rslot_eq {N w0 d : Nat} (hw : w0 < N) (h1 : 1 ≤ d) (hd : d ≤ N - 1) :
    rslot N w0 (d : Int) = if d ≤ w0 then w0 - d else w0 + N - d := by
  unfold rslot
  split
  · next h =>
    have : (w0 : Int) - d + N = ((w0 - d : Nat) : Int) + N := by omega
    rw [this, Int.add_emod_right, Int.emod_eq_of_lt (by omega) (by omega)]
    omega
  · next h =>
    rw [Int.emod_eq_of_lt (by omega) (by omega)]
    omega

theorem rslot_lt {N : Nat} (hN : 0 < N) (w0 : Nat) (d : Int) : rslot N w0 d < N := by
  unfold rslot
  have h1 := Int.emod_nonneg ((w0 : Int) - d + N) (b := N) (by omega)
  have h2 := Int.emod_lt_of_pos ((w0 : Int) - d + N) (b := N) (by omega)
  omega

/-- The ring entry at a distance is what its slot reads as. -/
theorem tap_eq (s : State) (w0 : Nat) (d : Int) :
    tap s w0 d = (Memory.read s.buf (rslot s.cfg.BUF_N w0 d)).toInt := by
  rw [tap, bufRead, ringSlot_of_lt (rslot_lt s.cfg.BUF_N_pos w0 d)]

/-! ## The conditioner -/

/-- The bias register holds the updated estimate exactly, for every sample of the raw range (R140, R155). -/
theorem nextBias_bounds {raw : Int} (h : InRawRange raw) (s : State) :
    -2 ^ 31 ≤ nextBias raw s ∧ nextBias raw s ≤ 2 ^ 31 - 1 := by
  have hb := s.bias.le_toInt; have hb' := s.bias.toInt_lt
  simp only [InRawRange, RAW_W] at h
  unfold nextBias
  split
  · rw [asr_eq_div]
    exact ema_between _ ⟨by omega, by omega⟩ ⟨by omega, by omega⟩
  · omega

/-- A gain the AGC writes is in the register's range (R146 to R149). -/
theorem nextGain_bounds (c : LegalConfig) (gain : Nat) (x : Int) :
    0 ≤ nextGain c gain x ∧ nextGain c gain x ≤ 256 := by
  have hm := c.AGC_MIN_GAIN_le
  unfold nextGain
  split
  · next h =>
    have := (div_pow_nonneg (x := magnitude x - c.AGC_THRESH) c.AGC_R (by omega)).1
    unfold attackGain
    rw [asr_eq_div]
    cases c.AGC_ATTACK <;> simp only <;> omega
  · unfold recoveryGain; omega

end Sys2Proof.Machine
end

