-- ==== Sys2Proof/Laws/PerInstr.lean ====
section
/-! SUPPORT. Statements about every event as syntax, one lemma per constructor: the word of an event has the fixed bits of
a row of spec/opcode_table.json under the event's own mnemonic. -/

namespace Sys2Proof.Laws

/-- A mask of the command byte leaves the byte's bits and no data. -/
theorem make_and_mask (c m : BitVec 8) (d : BitVec 32) :
    EventWord.make c d &&& EventWord.make m 0 = EventWord.make (c &&& m) 0 := by
  apply BitVec.eq_of_getLsbD_eq
  intro i hi
  rw [BitVec.getLsbD_and, EventWord.getLsbD_make, EventWord.getLsbD_make, EventWord.getLsbD_make]
  split <;> simp

/-- A row whose mask names the command byte only matches by that byte alone. -/
theorem matches_of_cmd {r : OpcodeRow} {i : Instr} (m p : BitVec 8) (hm : r.mask = EventWord.make m 0)
    (hp : r.pattern = EventWord.make p 0) (h : i.cmd &&& m = p) : r.Matches (encode i) := by
  rw [OpcodeRow.Matches, encode, hm, hp, make_and_mask, h]

/-- The event's word matches a row of the opcode table that has the event's mnemonic. -/
def EncodedRow.Statement (i : Instr) : Prop := ∃ r ∈ opcodeTable, r.Matches (encode i) ∧ r.mnemonic = i.mnemonic

theorem EncodedRow.tick (raw : Int) : EncodedRow.Statement (.tick raw) :=
  ⟨⟨"TICK", 0x0000000000, 0xFF00000000⟩, by decide, matches_of_cmd 0xFF 0x00 rfl rfl (by rw [Instr.cmd]; decide), rfl⟩

theorem EncodedRow.enc (ab : BitVec 2) : EncodedRow.Statement (.enc ab) :=
  ⟨⟨"ENC", 0x1000000000, 0xFF00000000⟩, by decide, matches_of_cmd 0xFF 0x10 rfl rfl (by rw [Instr.cmd]; decide), rfl⟩

theorem EncodedRow.btn (lv : BitVec 6) : EncodedRow.Statement (.btn lv) :=
  ⟨⟨"BTN", 0x2000000000, 0xFF00000000⟩, by decide, matches_of_cmd 0xFF 0x20 rfl rfl (by rw [Instr.cmd]; decide), rfl⟩

theorem EncodedRow.seten (e : Effect) (v : Bool) : EncodedRow.Statement (.seten e v) := by
  cases e
  case reverb => exact ⟨⟨"SETEN", 0x3400000000, 0xFF00000000⟩, by decide,
    matches_of_cmd 0xFF 0x34 rfl rfl (by rw [Instr.cmd]; decide), rfl⟩
  all_goals exact ⟨⟨"SETEN", 0x3000000000, 0xFC00000000⟩, by decide,
    matches_of_cmd 0xFC 0x30 rfl rfl (by rw [Instr.cmd]; decide), rfl⟩

theorem EncodedRow.geten (e : Effect) : EncodedRow.Statement (.geten e) := by
  cases e
  case reverb => exact ⟨⟨"GETEN", 0x4400000000, 0xFF00000000⟩, by decide,
    matches_of_cmd 0xFF 0x44 rfl rfl (by rw [Instr.cmd]; decide), rfl⟩
  all_goals exact ⟨⟨"GETEN", 0x4000000000, 0xFC00000000⟩, by decide,
    matches_of_cmd 0xFC 0x40 rfl rfl (by rw [Instr.cmd]; decide), rfl⟩

theorem EncodedRow.setp (p : Param) (value : Int) : EncodedRow.Statement (.setp p value) := by
  cases p
  case tremDepth => exact ⟨⟨"SETP", 0x5400000000, 0xFE00000000⟩, by decide,
    matches_of_cmd 0xFE 0x54 rfl rfl (by rw [Instr.cmd]; decide), rfl⟩
  case bassGain => exact ⟨⟨"SETP", 0x5400000000, 0xFE00000000⟩, by decide,
    matches_of_cmd 0xFE 0x54 rfl rfl (by rw [Instr.cmd]; decide), rfl⟩
  case revMix => exact ⟨⟨"SETP", 0x5600000000, 0xFF00000000⟩, by decide,
    matches_of_cmd 0xFF 0x56 rfl rfl (by rw [Instr.cmd]; decide), rfl⟩
  all_goals exact ⟨⟨"SETP", 0x5000000000, 0xFC00000000⟩, by decide,
    matches_of_cmd 0xFC 0x50 rfl rfl (by rw [Instr.cmd]; decide), rfl⟩

theorem EncodedRow.getp (p : Param) : EncodedRow.Statement (.getp p) := by
  cases p
  case tremDepth => exact ⟨⟨"GETP", 0x6400000000, 0xFE00000000⟩, by decide,
    matches_of_cmd 0xFE 0x64 rfl rfl (by rw [Instr.cmd]; decide), rfl⟩
  case bassGain => exact ⟨⟨"GETP", 0x6400000000, 0xFE00000000⟩, by decide,
    matches_of_cmd 0xFE 0x64 rfl rfl (by rw [Instr.cmd]; decide), rfl⟩
  case revMix => exact ⟨⟨"GETP", 0x6600000000, 0xFF00000000⟩, by decide,
    matches_of_cmd 0xFF 0x66 rfl rfl (by rw [Instr.cmd]; decide), rfl⟩
  all_goals exact ⟨⟨"GETP", 0x6000000000, 0xFC00000000⟩, by decide,
    matches_of_cmd 0xFC 0x60 rfl rfl (by rw [Instr.cmd]; decide), rfl⟩

theorem EncodedRow.rdst (item : Item) : EncodedRow.Statement (.rdst item) :=
  ⟨⟨"RDST", 0x7000000000, 0xF000000000⟩, by decide, matches_of_cmd 0xF0 0x70 rfl rfl (by cases item <;> rfl), rfl⟩

end Sys2Proof.Laws
end

