-- ==== Sys2Proof/Laws/Tick.lean ====
section
/-! SUPPORT. What a tick does, stage by stage and as a whole: the lemmas the proofs about TICK cite. -/

namespace Sys2Proof.Machine

/-! ## The engines write only their own state -/

theorem chorus_state (y : Int) (w0 sw : Nat) (s : State) :
    ∃ p x, (chorus y w0 sw s).2 = { s with ph_c := p, supplied := x } := by
  unfold chorus
  split
  · exact ⟨_, s.supplied, rfl⟩
  · exact ⟨s.ph_c, _, rfl⟩

theorem tremolo_state (y : Int) (w0 sw : Nat) (s : State) :
    ∃ p x, (tremolo y w0 sw s).2 = { s with ph_t := p, supplied := x } := by
  unfold tremolo
  split
  · exact ⟨_, s.supplied, rfl⟩
  · exact ⟨s.ph_t, _, rfl⟩

theorem bass_state (y : Int) (w0 sw : Nat) (s : State) :
    ∃ p x, (bass y w0 sw s).2 = { s with lp_b := p, supplied := x } := by
  unfold bass
  split
  · exact ⟨_, s.supplied, rfl⟩
  · exact ⟨s.lp_b, _, rfl⟩

theorem reverb_state (y : Int) (w0 sw : Nat) (s : State) :
    ∃ x, (reverb y w0 sw s).2 = { s with supplied := x } := by
  unfold reverb
  split
  · exact ⟨s.supplied, rfl⟩
  · exact ⟨_, rfl⟩

/-- All that the chain writes. -/
theorem chain_state (y : Int) (w0 sw : Nat) (s : State) :
    ∃ pc pt lp x, (chain y w0 sw s).2 = { s with ph_c := pc, ph_t := pt, lp_b := lp, supplied := x } := by
  simp only [chain]
  obtain ⟨pc, x1, h1⟩ := chorus_state y w0 sw s
  obtain ⟨pt, x2, h2⟩ := tremolo_state (chorus y w0 sw s).1 w0 sw (chorus y w0 sw s).2
  obtain ⟨lp, x3, h3⟩ := bass_state (tremolo (chorus y w0 sw s).1 w0 sw (chorus y w0 sw s).2).1 w0 sw
    (tremolo (chorus y w0 sw s).1 w0 sw (chorus y w0 sw s).2).2
  obtain ⟨x4, h4⟩ := reverb_state
    (bass (tremolo (chorus y w0 sw s).1 w0 sw (chorus y w0 sw s).2).1 w0 sw
      (tremolo (chorus y w0 sw s).1 w0 sw (chorus y w0 sw s).2).2).1 w0 sw
    (bass (tremolo (chorus y w0 sw s).1 w0 sw (chorus y w0 sw s).2).1 w0 sw
      (tremolo (chorus y w0 sw s).1 w0 sw (chorus y w0 sw s).2).2).2
  exact ⟨pc, pt, lp, x4, by rw [h4, h3, h2, h1]⟩

/-! ## The conditioner -/


/-- All that the conditioner writes. -/
theorem conditioner_state (raw : Int) (s : State) :
    ∃ b h g, (conditioner raw s).2 = { s with bias := b, bias_seeded := true, hpf_lp := h, agc_gain := g } :=
  ⟨_, _, _, rfl⟩

/-! ## The whole tick -/

/-- The sample that enters the ring on a tick. -/
def tickSample (raw : Int) (s : State) : Int := (conditioner raw (countTick s)).1

/-- The chain's output on a tick. -/
def tickChain (raw : Int) (s : State) : Int × State :=
  audioPath (tickSample raw s) s.wr_cursor.toNat s.samples_written.toNat (conditioner raw (countTick s)).2

/-- All that a tick writes: the conditioner's four registers, the engines' states, the ring at the cursor, the cursor, the
fill count, the tick counter and the output. -/
theorem tickState_eq (raw : Int) (s : State) :
    ∃ pc pt lp x, tickState raw s =
      { s with
        bias := (conditioner raw (countTick s)).2.bias
        bias_seeded := true
        hpf_lp := (conditioner raw (countTick s)).2.hpf_lp
        agc_gain := (conditioner raw (countTick s)).2.agc_gain
        buf := Memory.write s.buf (ringSlot s s.wr_cursor.toNat) (toReg 32 (tickSample raw s))
        wr_cursor := toReg 32 (((s.wr_cursor.toNat + 1) % s.cfg.BUF_N : Nat) : Int)
        samples_written := toReg 32 ((min (s.samples_written.toNat + 1) s.cfg.BUF_N : Nat) : Int)
        tick_count := s.tick_count + 1
        out_level := toReg 32 (outStage s.cfg (tickChain raw s).1)
        outputs := s.outputs ++ [toReg 32 (outStage s.cfg (tickChain raw s).1)]
        ph_c := pc
        ph_t := pt
        lp_b := lp
        supplied := x } ∧
      pc = (tickChain raw s).2.ph_c ∧ pt = (tickChain raw s).2.ph_t ∧ lp = (tickChain raw s).2.lp_b ∧
      x = (tickChain raw s).2.supplied := by
  obtain ⟨pc, pt, lp, x, h⟩ := chain_state
    (delayStage (tickSample raw s) s.wr_cursor.toNat s.samples_written.toNat (conditioner raw (countTick s)).2)
    s.wr_cursor.toNat s.samples_written.toNat (conditioner raw (countTick s)).2
  have hc : (tickChain raw s).2 = _ := h
  refine ⟨pc, pt, lp, x, ?_, by rw [hc], by rw [hc], by rw [hc], by rw [hc]⟩
  have ht : tickState raw s = ringWrite (tickSample raw s) s.wr_cursor.toNat s.samples_written.toNat
      (putOut (outStage s.cfg (tickChain raw s).1) (tickChain raw s).2) := rfl
  rw [ht, hc]
  rfl

/-- The bias register after a tick. -/
theorem conditioner_bias (raw : Int) (s : State) : (conditioner raw s).2.bias = toReg 32 (nextBias raw s) := rfl

/-- The low-pass register after a tick, from the bias just written. -/
theorem conditioner_hpf_lp (raw : Int) (s : State) : (conditioner raw s).2.hpf_lp =
    toReg 64 (s.hpf_lp.toInt + asr ((raw - (conditioner raw s).2.bias.toInt - s.hpf_lp.toInt) * s.cfg.HPF_COEFF) 8) :=
  rfl

/-- The low-pass register holds the exact value, in every state (R142). -/
theorem conditioner_hpf_lp_toInt (raw : Int) (s : State) (hr : InRawRange raw) :
    (conditioner raw s).2.hpf_lp.toInt =
      s.hpf_lp.toInt + (raw - (conditioner raw s).2.bias.toInt - s.hpf_lp.toInt) * s.cfg.HPF_COEFF / 2 ^ 8 := by
  have h1 := s.hpf_lp.le_toInt; have h2 := s.hpf_lp.toInt_lt
  have h3 := (conditioner raw s).2.bias.le_toInt; have h4 := (conditioner raw s).2.bias.toInt_lt
  simp only [InRawRange, RAW_W] at hr
  rw [conditioner_hpf_lp, asr_eq_div]
  have hb := onePole_between (a := s.hpf_lp.toInt) (b := raw - (conditioner raw s).2.bias.toInt)
    (lo := -2 ^ 63) (hi := 2 ^ 63 - 1) s.cfg.HPF_COEFF_le ⟨by omega, by omega⟩ ⟨by omega, by omega⟩
  exact toReg64_toInt hb.1 hb.2

/-- The value the scaler takes, from the registers just written (R141 to R143). -/
theorem tick_scaled (raw : Int) (s : State) (t : State) (hb : t.bias = (conditioner raw s).2.bias)
    (hh : t.hpf_lp = (conditioner raw s).2.hpf_lp) (hc : t.cfg = s.cfg) :
    scale s.cfg (sel s.cfg (raw - (conditioner raw s).2.bias.toInt)
      (raw - (conditioner raw s).2.bias.toInt - (conditioner raw s).2.hpf_lp.toInt)) = scaledSample t raw := by
  unfold scale sel scaledSample highPassed biasRemoved
  rw [asr_eq_div, hb, hh, hc]
  cases s.cfg.HPF_SEL <;> simp

/-- The gain register after a tick, as the AGC rules give it from the level (R145 to R147). -/
theorem conditioner_gain (raw : Int) (s : State) (t : State) (hb : t.bias = (conditioner raw s).2.bias)
    (hh : t.hpf_lp = (conditioner raw s).2.hpf_lp) (hc : t.cfg = s.cfg) :
    ((conditioner raw s).2.agc_gain.toNat : Int) = nextGain s.cfg s.agc_gain.toNat (scaledSample t raw) := by
  rw [← tick_scaled raw s t hb hh hc]
  have hg := nextGain_bounds s.cfg s.agc_gain.toNat (scale s.cfg (sel s.cfg (raw - (conditioner raw s).2.bias.toInt)
      (raw - (conditioner raw s).2.bias.toInt - (conditioner raw s).2.hpf_lp.toInt)))
  exact toReg_toNat hg.1 (lt_of_le_of_lt hg.2 (by norm_num))

/-- The soft limiter with floor divisions (R150, R151). -/
theorem limitIn_eq (c : LegalConfig) (a : Int) : limitIn c a =
    if a > c.LIM_IN_T then c.LIM_IN_T + (a - c.LIM_IN_T) / 4
    else if a < -c.LIM_IN_T then -(c.LIM_IN_T + (-a - c.LIM_IN_T) / 4) else a := by
  unfold limitIn
  rw [asr_eq_div, asr_eq_div]
  rfl

/-- The conditioned sample, read back from the registers just written (R152). -/
theorem conditioner_sample (raw : Int) (s : State) (t : State) (hb : t.bias = (conditioner raw s).2.bias)
    (hh : t.hpf_lp = (conditioner raw s).2.hpf_lp) (hg : t.agc_gain = (conditioner raw s).2.agc_gain)
    (hc : t.cfg = s.cfg) : (conditioner raw s).1 = conditionedSample t raw := by
  have h1 : (conditioner raw s).1 = limitIn s.cfg (asr (scale s.cfg (sel s.cfg
      (raw - (conditioner raw s).2.bias.toInt)
      (raw - (conditioner raw s).2.bias.toInt - (conditioner raw s).2.hpf_lp.toInt)) *
        (conditioner raw s).2.agc_gain.toNat) 8) := rfl
  rw [h1, tick_scaled raw s t hb hh hc, asr_eq_div, ← hg, limitIn_eq]
  unfold conditionedSample agcOut
  rw [hc]

end Sys2Proof.Machine
end

