-- ==== Sys2Proof/Laws/Step.lean ====
section
/-! SUPPORT. What one event and one step can do (one inversion lemma each), and an induction over runs. -/

namespace Sys2Proof.Machine

/-! ## Events -/

/-- Every event ends in a next state (spec/60_exceptions.md R290). -/
def execState : Instr → State → State
  | .tick raw, s => tickState raw s
  | .enc ab, s => encState ab s
  | .btn lv, s => btnState lv s
  | .seten e v, s => setEnable e v s
  | .geten e, s => respond (zextFlag (getEffect s.en e)) s
  | .setp p v, s => paramWrite p v s
  | .getp p, s => respond (sext64 (getParam s.param p)) s
  | .rdst n, s => respond (itemVal s n) s

theorem exec_eq (i : Instr) (s : State) : exec i s = .next (execState i s) := by
  cases i <;> rfl

theorem exec_next {i : Instr} {s t : State} : exec i s = .next t ↔ t = execState i s := by
  rw [exec_eq]
  exact ⟨fun h => (Host.Outcome.next.inj h).symm, fun h => by rw [h]⟩

/-- A run is the events' states one after another. -/
theorem runEvents_cons (i : Instr) (is : List Instr) (s : State) :
    runEvents (i :: is) s = runEvents is (execState i s) := by
  rw [runEvents, exec_eq]

/-- What every event keeps along a run, a run keeps. -/
theorem runEvents_induct {P : State → Prop} {is : List Instr} {s t : State}
    (hstep : ∀ i ∈ is, ∀ s, P s → P (execState i s)) (hs : P s) (h : runEvents is s = .next t) : P t := by
  induction is generalizing s with
  | nil =>
    obtain rfl := Host.Outcome.next.inj h
    exact hs
  | cons i is ih =>
    rw [runEvents_cons] at h
    exact ih (fun j hj => hstep j (by simp [hj])) (hstep i (by simp) s hs) h

/-! ## Buttons -/

/-- After an accepted press at this tick no further press is accepted (spec/46_dispatch.md R253). -/
theorem accept_acceptPress (e : Effect) (s : State) : accept (acceptPress e s) = false := by
  simp [accept]

/-- One turn of the loop: an accepted press of a rising button, or nothing. -/
theorem pressButton_cases (rise : BitVec 5) (s : State) (e : Effect) :
    (riseOf rise e = true ∧ accept s = true ∧ pressButton rise s e = acceptPress e s) ∨
    ((riseOf rise e = false ∨ accept s = false) ∧ pressButton rise s e = s) := by
  unfold pressButton
  cases h1 : riseOf rise e <;> cases h2 : accept s <;> simp

/-- With no press acceptable the loop changes nothing. -/
theorem foldl_pressButton_of_not_accept (rise : BitVec 5) (s : State) (es : List Effect) (h : accept s = false) :
    es.foldl (pressButton rise) s = s := by
  induction es with
  | nil => rfl
  | cons e es ih =>
    rw [List.foldl_cons]
    have : pressButton rise s e = s := by simp [pressButton, h]
    rw [this, ih]

/-- All that the loop does: the first rising button of the list, if a press is acceptable, and nothing else (R253). -/
theorem foldl_pressButton (rise : BitVec 5) (s : State) (es : List Effect) :
    es.foldl (pressButton rise) s =
      if accept s = true then
        match es.find? (riseOf rise) with
        | some e => acceptPress e s
        | none => s
      else s := by
  cases ha : accept s with
  | false => simpa using foldl_pressButton_of_not_accept rise s es ha
  | true =>
    simp only [if_true]
    induction es with
    | nil => rfl
    | cons e es ih =>
      rw [List.foldl_cons, List.find?_cons]
      cases hr : riseOf rise e with
      | true =>
        have : pressButton rise s e = acceptPress e s := by simp [pressButton, ha, hr]
        rw [this, foldl_pressButton_of_not_accept _ _ _ (accept_acceptPress e s)]
      | false =>
        have : pressButton rise s e = s := by simp [pressButton, hr]
        rw [this]
        exact ih

/-- All that a button reading does (R250 to R256). -/
theorem btnState_eq (lv : BitVec 6) (s : State) :
    btnState lv s =
      if accept s = true then
        match [Effect.delay, .chorus, .tremolo, .bass, .reverb].find? (riseOf (risingEdges s lv)) with
        | some e => acceptPress e { s with btn_prev := lv }
        | none => { s with btn_prev := lv }
      else { s with btn_prev := lv } :=
  foldl_pressButton _ _ _

/-! ## The encoder -/

/-- A pair of readings is never both events (spec/45_quadrature.md R243). -/
theorem not_both_events (p r : BitVec 2) : (isCwEvent p r && isCcwEvent p r) = false := by
  revert p r; decide

/-- All that an encoder reading does, from a state between events (R241 to R245). -/
theorem encState_cases (ab : BitVec 2) {s : State} (h1 : s.cw_seen = false) (h2 : s.ccw_seen = false) :
    (isCwEvent s.enc_prev ab = true ∧ encState ab s = clearRotation (rotDispatch 1 (latchRotation ab s))) ∨
    (isCcwEvent s.enc_prev ab = true ∧ encState ab s = clearRotation (rotDispatch (-1) (latchRotation ab s))) ∨
    (isCwEvent s.enc_prev ab = false ∧ isCcwEvent s.enc_prev ab = false ∧
      encState ab s = { s with enc_prev := ab, cw_seen := false, ccw_seen := false }) := by
  have hk : ∀ (d : Int) (s : State), (rotDispatch d s).ccw_seen = s.ccw_seen := fun d s => by
    rcases rotDispatch_cases d s with ⟨_, h⟩ | ⟨e, _, h⟩ <;> rw [h]
    rw [paramWrite_eq]
  have hb := not_both_events s.enc_prev ab
  unfold encState dispatchRotation
  cases hc : isCwEvent s.enc_prev ab <;> cases hcc : isCcwEvent s.enc_prev ab <;>
    simp_all [latchRotation, clearRotation]

/-! ## Steps -/

/-- All that a step can do (spec/00_scope.md R6; spec/70_reset_and_hazards.md R313): wait, take a level of the reset
input, drop an event while in reset, run an event, refuse a reserved command. -/
theorem step_cases (s : State) :
    (s.pending = [] ∧ step s = .next s) ∨
    (∃ b rest, s.pending = .reset b :: rest ∧ step s = .next (setReset b (consume rest s))) ∨
    (∃ W rest, s.pending = .event W :: rest ∧ s.reset_asserted = true ∧ step s = .next (consume rest s)) ∨
    (∃ W rest i, s.pending = .event W :: rest ∧ s.reset_asserted = false ∧ decode W = .event i ∧
      step s = .next (execState i (consume rest s))) ∨
    (∃ W rest cmd, s.pending = .event W :: rest ∧ s.reset_asserted = false ∧ decode W = .refusedCmd cmd ∧
      step s = .next (markRefused (consume rest s))) := by
  unfold step
  cases hp : s.pending with
  | nil => exact .inl ⟨rfl, rfl⟩
  | cons x rest =>
    cases x with
    | reset b => exact .inr (.inl ⟨b, rest, rfl, rfl⟩)
    | event W =>
      cases hr : s.reset_asserted with
      | true => exact .inr (.inr (.inl ⟨W, rest, rfl, rfl, by simp⟩))
      | false =>
        cases hd : decode W with
        | event i => exact .inr (.inr (.inr (.inl ⟨W, rest, i, rfl, rfl, hd, by simp [hd, exec_eq]⟩)))
        | refusedCmd cmd =>
          exact .inr (.inr (.inr (.inr ⟨W, rest, cmd, rfl, rfl, hd, by simp [hd, refuseCommand]⟩)))

end Sys2Proof.Machine
end

