-- ==== Sys2Proof/Tests/Slice0.lean ====
section
/-! SUPPORT. Tests of the model against the words and vectors of spec/ (the source of each is named), and a witness for the
hypotheses of every statement that has some. -/

namespace Sys2Proof.Tests

open Sys2Proof.Machine

/-! ## Helpers -/

/-- What `f` shows of a next state. -/
def on {α : Type} (o : Host.Outcome State Fault Refusal) (f : State → α) : Option α :=
  match o with
  | .next t => some (f t)
  | .fault _ => none
  | .refused _ => none

/-- Reset, with the bias seeded at 0. -/
def seeded (c : LegalConfig) : State := { State.resetWith c with bias_seeded := true }

/-- Enables one effect. -/
def enabled (e : Effect) (s : State) : State := setEnable e true s

/-- The ring of spec/95_test_vectors.md 3.4, the cursor at 6, every slot written. -/
def full : State :=
  { seeded Config.tcS with
    buf := [(0, 100), (1, 200), (2, 300), (3, 400), (4, 500), (5, 600), (6, 700), (7, 800)]
    wr_cursor := 6
    samples_written := 8 }

/-- Two samples written, both 0. -/
def two : State := { seeded Config.tcS with wr_cursor := 2, samples_written := 2 }

/-- A press accepted at the tick `last`, the counter at `now`. -/
def pressed (last now : BitVec 32) : State :=
  { State.resetWith Config.tc with any_accepted := true, last_any := last, tick_count := now }

/-- TC-B with the MIN attack law. -/
def tcMin : LegalConfig where
  toConfig := { Config.tcB.toConfig with AGC_ATTACK := .min }
  legal := by decide

/-- TC-S with a supplied set of engines. -/
def tcSupplied : LegalConfig where
  toConfig := { Config.tcS.toConfig with EFFECT_IMPL := .supplied }
  legal := by decide

/-- TC-S without a chorus swing. -/
def tcStill : LegalConfig where
  toConfig := { Config.tcS.toConfig with CH_SWING := 0 }
  legal := by decide

/-- TC with an output range of 1 and no output amplitude. -/
def tcNarrow : LegalConfig where
  toConfig := { Config.tc.toConfig with OUTPUT_SCALE := 1, OUT_CLIP := 0 }
  legal := by decide

/-! ## WellFormed: an ill-formed term for each check, refused (spec/30_encoding.md R113) -/

theorem test_wf_tick_above : (Instr.tick 2147483648).wf = false := by decide
theorem test_wf_tick_below : (Instr.tick (-2147483649)).wf = false := by decide
theorem test_wf_setp_above : (Instr.setp .delayLen 2147483648).wf = false := by decide
theorem test_wf_setp_below : (Instr.setp .revMix (-2147483649)).wf = false := by decide
theorem test_wf_ends : (Instr.tick 2147483647).wf = true ∧ (Instr.setp .revMix (-2147483648)).wf = true := by decide

/-! ## Decode: words written out from R115 and from spec/95_test_vectors.md 3.1 -/

theorem test_decode_tick : decode 0x0080000000 = .event (.tick (-2147483648)) := by decide
theorem test_decode_enc : decode 0x10FFFFFFFD = .event (.enc 0b01) := by decide
theorem test_decode_btn : decode 0x20FFFFFFC0 = .event (.btn 0b000000) := by decide
theorem test_decode_seten : decode 0x34FFFFFFFE = .event (.seten .reverb false) := by decide
theorem test_decode_geten : decode 0x44DEADBEEF = .event (.geten .reverb) := by decide
theorem test_decode_setp : decode 0x5680000000 = .event (.setp .revMix (-2147483648)) := by decide
theorem test_decode_getp : decode 0x6600000000 = .event (.getp .revMix) := by decide
theorem test_decode_rdst : decode 0x7F00000000 = .event (.rdst .tremInc) := by decide
theorem test_decode_refused :
    [0x0100000000, 0x0F12345678, 0x2100000001, 0x3500000001, 0x3800000001, 0x4700000000, 0x5700000000, 0x6F00000000,
      0x8000000000, 0xFFFFFFFFFF].map decode =
    [0x01, 0x0F, 0x21, 0x35, 0x38, 0x47, 0x57, 0x6F, 0x80, 0xFF].map .refusedCmd := by decide
theorem test_decodeTableWord : decodeTableWord 40 0x50000003E8 = some (.setp .delayLen 1000) ∧
    decodeTableWord 40 0x3500000001 = none := by decide

/-! ## The textual syntax (R113 to R115) -/

theorem test_asm_setp : Asm.assemble "SETP TREM_DEPTH, -5 ; below its range" = some [0x54FFFFFFFB] := by decide
theorem test_asm_rdst : Asm.assemble "RDST AGC_GAIN" = some [0x7300000000] := by decide
theorem test_asm_rotcw :
    Asm.assemble "ROTCW" = some [0x1000000001, 0x1000000003, 0x1000000002, 0x1000000000] := by decide
theorem test_asm_out_of_range : Asm.assemble "TICK 2147483648" = none := by decide

/-! ## TICK (spec/95_test_vectors.md 3.2, 3.4, P1) -/

/-- 3.2 row 4: bias, low-pass state, gain, conditioned sample. -/
theorem test_tick_conditioner :
    on (exec (.tick 2147483647) (seeded Config.tc)) (fun t =>
      (t.bias.toInt, t.hpf_lp.toInt, t.agc_gain.toNat, (Memory.read t.buf 0).toInt)) =
    some (2097151, 268173312, 64, 5830) := by decide

/-- 3.2, W4: the floors on the negative side. -/
theorem test_tick_negative :
    on (exec (.tick (-78643200)) (seeded Config.tcB)) (fun t =>
      (t.bias.toInt, t.agc_gain.toNat, (Memory.read t.buf 0).toInt)) = some (-1, 206, -1932) := by decide

/-- 3.4: one engine enabled at a time, raw 8000. -/
theorem test_tick_chorus :
    on (exec (.tick 8000) (enabled .chorus { full with ph_c := 0x80000000 })) (fun t => t.outputs) = some [4600] := by
  decide
theorem test_tick_tremolo :
    on (exec (.tick (-8000)) (enabled .tremolo { full with ph_t := 0x80000000 })) (fun t => t.outputs) =
      some [3496] := by
  decide
theorem test_tick_bass :
    on (exec (.tick (-8000)) (enabled .bass full)) (fun t => (t.lp_b.toInt, t.outputs)) = some (-250, [2875]) := by
  decide
theorem test_tick_reverb : on (exec (.tick 8000) (enabled .reverb full)) (fun t => t.outputs) = some [4825] := by decide

/-- P2, row 6: the delay mix, and the ring write behind it. -/
theorem test_tick_delay :
    on (exec (.tick 3200) (enabled .delay { full with wr_cursor := 4, samples_written := 4, buf := [(1, 100)] }))
      (fun t => (t.outputs, t.buf, t.wr_cursor.toNat, t.samples_written.toNat)) =
    some ([4171], [(1, 100), (4, 400)], 5, 5) := by decide

/-! ## ENC (3.6) -/

theorem test_enc_cw :
    on (exec (.enc 0b00) (enabled .delay { State.resetWith Config.tc with enc_prev := 0b10 })) (fun t =>
      (paramVal t .delayLen, t.enc_prev, t.cw_seen)) = some (1100, 0b00, false) := by decide
theorem test_enc_ccw_priority :
    on (exec (.enc 0b00) (enabled .bass (enabled .reverb { State.resetWith Config.tc with enc_prev := 0b01 })))
      (fun t => (paramVal t .bassGain, paramVal t .revMix)) = some (96, 64) := by decide

/-! ## BTN (3.7) -/

/-- D-4. -/
theorem test_btn_all :
    on (exec (.btn 0b111111) (State.resetWith Config.tc)) (fun t => (t.en, t.btn_prev)) =
      some (⟨true, false, false, false, false⟩, 0b111111) := by decide
/-- D-5, D-6: the window across the wrap of the tick counter. -/
theorem test_btn_wrap :
    on (exec (.btn 0b000001) (pressed 0xFFFFFFF0 0x60)) (fun t => (t.en.delay, t.last_any)) = some (true, 0x60) ∧
    on (exec (.btn 0b000001) (pressed 0xFFFFFFF0 0x50)) (fun t => (t.en.delay, t.last_any)) =
      some (false, 0xFFFFFFF0) := by decide

/-! ## The host port (3.8) -/

theorem test_seten_sets :
    on (exec (.seten .reverb true) (enabled .reverb (State.resetWith Config.tc))) (fun t => t.en.reverb) = some true := by
  decide
theorem test_geten : on (exec (.geten .reverb) (enabled .reverb (State.resetWith Config.tc))) (fun t => t.responses) =
    some [1] := by decide
theorem test_setp_clamps :
    on (exec (.setp .chorusRate 200) (State.resetWith Config.tc)) (fun t =>
      (paramVal t .chorusRate, t.ch_inc.toNat)) = some (100, 2621440) := by decide
theorem test_setp_below :
    on (exec (.setp .tremDepth (-5)) (State.resetWith Config.tc)) (fun t => paramVal t .tremDepth) = some 0 := by decide
theorem test_getp : on (exec (.getp .revMix) (State.resetWith Config.tc)) (fun t => t.responses) = some [64] := by decide
theorem test_rdst :
    on (exec (.rdst .tremInc) (State.resetWith Config.tc)) (fun t => t.responses) = some [1048576] := by decide
/-- R276, last paragraph. -/
theorem test_rdst_supplied :
    on (exec (.rdst .tremInc) (State.resetWith tcSupplied)) (fun t => t.responses) = some [0] := by decide

/-! ## Steps -/

/-- The values the source fixes (spec/00_scope.md R8, spec/42_delay.md R173). -/
theorem test_reset_sourceFixed : State.reset.cfg.SourceFixed := Config.implementation_sourceFixed

/-- The first step after reset runs the word, whatever the implementation's configuration is. -/
theorem test_step_first : on (step (State.reset.withFetchWord 40 0x7300000000)) (fun t => t.responses) = some [256] := by
  decide
theorem test_step_refused :
    on (step (State.reset.withFetchWord 40 0x3500000001)) (fun t => (t.refused, t.en.reverb)) = some (true, false) := by
  decide

/-- The reset memory is in canonical form, and a write keeps a ring so. -/
theorem test_memory_wf : Memory.wf State.reset.buf ∧ Memory.wf full.buf ∧
    Memory.write full.buf 3 0 = [(0, 100), (1, 200), (2, 300), (4, 500), (5, 600), (6, 700), (7, 800)] := by decide

/-! ## Witnesses: a concrete state and operands for the hypotheses of each statement, one for each of its clauses

`exec` and `step` answer a next state in every state, so a hypothesis `exec i s = .next t` is met by computing `t`. -/

/-- The reset state of TC meets the invariant, and so does a state with two samples written. -/
theorem inv_of_empty_ring {s : State} (hb : s.buf = []) (h1 : s.wr_cursor.toNat < s.cfg.BUF_N)
    (h2 : s.samples_written.toNat ≤ s.cfg.BUF_N) (h3 : s.wr_cursor = s.samples_written)
    (h4 : s.bias_seeded = true ↔ s.samples_written ≠ 0) (h5 : s.hpf_lp = 0) (h6 : s.agc_gain = 256)
    (h7 : s.cfg.AGC_MIN_GAIN ≤ 256) (h8 : s.lp_b = 0)
    (h9 : ∀ p ∈ [Param.delayLen, .chorusLen, .chorusRate, .tremRate, .tremDepth, .bassGain, .revMix],
      (rangeOf s p).MIN ≤ paramVal s p ∧ paramVal s p ≤ (rangeOf s p).MAX)
    (h10 : s.ch_inc = inc s.cfg.RATE_DIV (paramVal s .chorusRate))
    (h11 : s.trem_inc = inc s.cfg.RATE_DIV (paramVal s .tremRate)) (h12 : s.out_level.toNat ≤ s.cfg.OUTPUT_SCALE)
    (h13 : s.cw_seen = false ∧ s.ccw_seen = false) : Inv s where
  ring_wf := by rw [hb]; decide
  ring_slots := by rw [hb]; simp
  ring_bound := fun i => by rw [hb, Memory.read]; decide
  cursor_lt := h1
  count_le := h2
  warm := fun _ => h3
  unwritten := fun i _ _ => by rw [hb]; rfl
  seeded := h4
  hpf_bound := by rw [h5]; decide
  gain_ge := by rw [h6]; exact h7
  gain_le := by rw [h6]; decide
  lp_bound := by rw [h8]; decide
  params := fun p => h9 p (by cases p <;> decide)
  chorus_inc := h10
  tremolo_inc := h11
  out_le := h12
  no_rotation := h13

theorem inv_reset : Inv (State.resetWith Config.tc) := by apply inv_of_empty_ring <;> decide
theorem inv_two : Inv two := by apply inv_of_empty_ring <;> decide

theorem witness_DecodeOfEncode :
    (Instr.tick (-2147483648)).wf = true ∧ (Instr.setp .tremDepth 2147483647).wf = true := by decide
theorem witness_EncodeOfDecode : decode 0x20FFFFFFC0 = .event (.btn 0) := by decide
theorem witness_IgnoredBits :
    (0xFFFFFFFD#32).extractLsb' 0 2 = (1#32).extractLsb' 0 2 ∧
    (0xFFFFFFC0#32).extractLsb' 0 6 = (0#32).extractLsb' 0 6 ∧
    (0xFFFFFFFE#32).getLsbD 0 = (0#32).getLsbD 0 := by decide
/-- Both ends of every reserved range, and both neighbours. -/
theorem witness_ReservedCommands :
    ([0x0100000000#40, 0x0F00000000, 0x1100000000, 0x1F00000000, 0x2100000000, 0x2F00000000, 0x3500000000, 0x3F00000000,
      0x4500000000, 0x4F00000000, 0x5700000000, 0x5F00000000, 0x6700000000, 0x6F00000000, 0x8000000000,
      0xFF00000000].all fun W => decode W = .refusedCmd (EventWord.cmd W)) = true ∧
    ([0x0000000000#40, 0x1000000000, 0x2000000000, 0x3000000000, 0x3400000000, 0x4000000000, 0x4400000000, 0x5000000000,
      0x5600000000, 0x6000000000, 0x6600000000, 0x7000000000, 0x7F00000000].any fun W =>
        decode W = .refusedCmd (EventWord.cmd W)) = false := by decide
theorem witness_DecoderAgrees : decode 0x5500000001 = .event (.setp .bassGain 1) ∧
    decode 0x6700000000 = .refusedCmd 0x67 ∧ (∃ r ∈ opcodeTable, r.Matches 0x5500000001) := by decide
theorem witness_Assembled : Asm.line "SETP REV_MIX, 0x80000000".toList = some [.setp .revMix (-2147483648)] := by decide

/-- A word pending, the reset input released. -/
def offered (W : EventWord) : State := { State.resetWith Config.tc with pending := [.event W] }

theorem witness_StepRuns : (offered 0x5000000001).pending = .event 0x5000000001 :: [] ∧
    (offered 0x5000000001).reset_asserted = false ∧ decode 0x5000000001 = .event (.setp .delayLen 1) := by decide
theorem witness_ReservedCommandOnlySets : (offered 0x3500000001).pending = .event 0x3500000001 :: [] ∧
    (offered 0x3500000001).reset_asserted = false ∧
    ∀ i, encode i &&& 0xFF00000000 ≠ 0x3500000001#40 &&& 0xFF00000000 := by
  refine ⟨by decide, by decide, fun i h => ?_⟩
  have h' : EventWord.make (i.cmd &&& 0xFF) 0 = EventWord.make 0x35 0 := by
    rw [← Sys2Proof.Laws.make_and_mask i.cmd 0xFF i.data]
    exact h
  have h'' := congrArg EventWord.cmd h'
  rw [EventWord.cmd_make, EventWord.cmd_make] at h''
  revert h''
  cases i with
  | seten e v => cases e <;> (rw [Instr.cmd]; decide)
  | geten e => cases e <;> (rw [Instr.cmd]; decide)
  | setp p v => cases p <;> (rw [Instr.cmd]; decide)
  | getp p => cases p <;> (rw [Instr.cmd]; decide)
  | rdst n => cases n <;> (rw [Instr.cmd]; decide)
  | _ => rw [Instr.cmd]; decide
theorem witness_OutcomeIsDecided : EventWord.cmd 0x35FFFFFFFF = EventWord.cmd 0x3500000000 ∧
    (eventOutcome 0x35FFFFFFFF).code = 1 ∧ (eventOutcome 0x34FFFFFFFF).code = 0 := by decide
theorem witness_ResetInput :
    ({ offered 0 with pending := [.reset true] } : State).pending = .reset true :: [] ∧
    ({ offered 0 with pending := [.reset false] } : State).pending = .reset false :: [] ∧
    ({ offered 0 with reset_asserted := true } : State).pending = .event 0 :: [] ∧
    ({ offered 0 with reset_asserted := true } : State).reset_asserted = true := by decide
theorem witness_IllegalConfiguration :
    ¬ (({ Config.tc.toConfig with BUF_N := 1 } : Config).RangesLegal ∧
      ({ Config.tc.toConfig with BUF_N := 1 } : Config).RelationsLegal) ∧
    ¬ (({ Config.tc.toConfig with RV_D1 := 1637 } : Config).RangesLegal ∧
      ({ Config.tc.toConfig with RV_D1 := 1637 } : Config).RelationsLegal) ∧
    Config.tc.toConfig.isLegal = true :=
  ⟨fun h => absurd (Config.isLegal_of_legal h) (by decide), fun h => absurd (Config.isLegal_of_legal h) (by decide),
    by decide⟩
theorem witness_NoStepWrites : ∃ t, step (offered 0x5000000001) = .next t := ⟨_, rfl⟩
theorem witness_FieldsAreWritten : ∃ t, exec (.setp .delayLen 1) (offered 0) = .next t := ⟨_, rfl⟩

theorem witness_TickUpdatesTheBias : InRawRange (-2147483648) ∧ InRawRange 2147483647 ∧
    (State.resetWith Config.tc).bias_seeded = false ∧ (seeded Config.tc).bias_seeded = true := by decide
theorem witness_BiasStays : (InRawRange 5 ∧ (-3 : Int) ≤ 5 ∧ (5 : Int) ≤ 5 ∧ (-3 : Int) ≤ (seeded Config.tc).bias.toInt ∧
      (seeded Config.tc).bias.toInt ≤ 5) ∧
    (∀ i ∈ [Instr.tick 5, .tick (-3)], i.wf = true) ∧
    (∃ t, runEvents [.tick 5, .tick (-3)] (State.resetWith Config.tc) = .next t) :=
  ⟨by decide, by decide, ⟨_, rfl⟩⟩
/-- A bias above, at and below the input; below it on both sides of 2^DC_K. -/
theorem witness_BiasConverges : (seeded Config.tc).bias_seeded = true ∧ (seeded Config.tc).bias.toInt > -1 ∧
    (seeded Config.tc).bias.toInt = 0 ∧ (seeded Config.tc).bias.toInt < 1023 ∧
    (1023 : Int) - (seeded Config.tc).bias.toInt < 2 ^ (seeded Config.tc).cfg.DC_K ∧
    ¬ ((1024 : Int) - (seeded Config.tc).bias.toInt < 2 ^ (seeded Config.tc).cfg.DC_K) := by decide
/-- The level just above and at the threshold of 2000, under both attack laws (P4). -/
theorem witness_TickUpdatesTheGain :
    level (tickState 65568768 (seeded Config.tcB)) 65568768 = 2001 ∧ Config.tcB.AGC_ATTACK = .set ∧
    level (tickState 65568768 (seeded tcMin)) 65568768 = 2001 ∧ tcMin.AGC_ATTACK = .min ∧
    level (tickState 65536000 (seeded Config.tcB)) 65536000 = 2000 ∧ Config.tcB.AGC_THRESH = 2000 := by decide
/-- P4, rows 2 and 3: a falling excess; and the same in the other order; a recovery near and below the cap. -/
theorem witness_GainAttackAndRecovery :
    (seeded Config.tcB).cfg.AGC_MIN_GAIN ≤ (seeded Config.tcB).agc_gain.toNat ∧
    (seeded Config.tcB).agc_gain.toNat ≤ 256 ∧
    level (tickState 78643200 (seeded Config.tcB)) 78643200 = 2400 ∧
    level (tickState 72089600 (tickState 78643200 (seeded Config.tcB))) 72089600 = 2200 ∧
    level (tickState 78643200 (tickState 72089600 (seeded Config.tcB))) 78643200 = 2400 ∧
    level (tickState 0 (seeded Config.tcB)) 0 ≤ Config.tcB.AGC_THRESH ∧
    ({ seeded Config.tcB with agc_gain := 255 } : State).agc_gain.toNat + Config.tcB.AGC_STEP ≤ 256 ∧
    (seeded Config.tcB).agc_gain.toNat + Config.tcB.AGC_STEP > 256 := by decide
theorem witness_SoftLimiter : |(3000 : Int)| ≤ Config.tc.LIM_IN_T ∧ (3001 : Int) > Config.tc.LIM_IN_T ∧
    (-3001 : Int) < -Config.tc.LIM_IN_T ∧ (3004 : Int) > Config.tc.LIM_IN_T + 3 := by decide
theorem witness_ConditionerValues : InRawRange (-2147483648) ∧ |(seeded Config.tc).hpf_lp.toInt| ≤ 2 ^ 32 - 1 ∧
    (∃ t, exec (.tick (-2147483648)) (seeded Config.tc) = .next t) := ⟨by decide, by decide, _, rfl⟩

/-- The last slot of the ring, and the first. -/
theorem witness_TickWrites : InRawRange 8000 ∧ |full.hpf_lp.toInt| ≤ 2 ^ 32 - 1 ∧ full.wr_cursor.toNat < full.cfg.BUF_N ∧
    ({ full with wr_cursor := 7 } : State).wr_cursor.toNat < full.cfg.BUF_N ∧ Memory.wf full.buf := by decide
/-- 3.3, with its results. -/
theorem witness_ReadSlot : (2 : Nat) < 8 ∧ 1 ≤ 3 ∧ 3 ≤ 8 - 1 ∧ rslot 8 2 3 = 7 ∧ rslot 8 0 7 = 1 ∧ rslot 8 7 1 = 6 := by
  decide
theorem witness_DelayStage : paramVal full .delayLen = (3 : Nat) ∧ 1 ≤ 3 ∧ 3 ≤ full.cfg.BUF_N - 1 ∧
    full.wr_cursor.toNat < full.cfg.BUF_N ∧ full.en.delay = false ∧ (enabled .delay full).en.delay = true ∧
    delayStage 1000 6 3 (enabled .delay full) = 1000 ∧ delayStage 1000 6 4 (enabled .delay full) = 542 := by decide
theorem witness_Guard : Inv two ∧ 1 ≤ 1 ∧ 1 ≤ two.cfg.BUF_N - 1 ∧ 1 < two.samples_written.toNat :=
  ⟨inv_two, by decide⟩
theorem ringHolds_reset (c : LegalConfig) : RingHolds [] (State.resetWith c) where
  cursor := by simp [State.resetWith]
  count := by simp [State.resetWith]
  taps := fun d h1 _ h3 => by simp only [List.length_nil] at h3; omega
theorem witness_EachTickExtends : (Instr.tick 100).wf = true ∧ Inv (State.resetWith Config.tc) ∧
    RingHolds [] (State.resetWith Config.tc) ∧ (∃ t, exec (.tick 100) (State.resetWith Config.tc) = .next t) :=
  ⟨by decide, inv_reset, ringHolds_reset _, _, rfl⟩
theorem witness_DelayIsExact : (∀ i ∈ [Instr.tick 100, .seten .delay true, .tick (-100)], i.wf = true) ∧
    (∃ t, runEvents [.tick 100, .seten .delay true, .tick (-100)] (State.resetWith Config.tc) = .next t) :=
  ⟨by decide, _, rfl⟩
theorem witness_RingReadAfterWrite : Memory.wf full.buf ∧ 0 < full.cfg.BUF_N ∧ 7 < full.cfg.BUF_N ∧
    (-2 ^ 31 : Int) ≤ -2147483648 ∧ (2147483647 : Int) ≤ 2 ^ 31 - 1 := by decide

/-- 3.4: both halves and their ends. -/
theorem witness_Triangle : tri 0x00000000 = 0 ∧ tri 0x7FFFFFFF = 32767 ∧ tri 0x80000000 = 32767 ∧
    tri 0xC0000000 = 16383 ∧ tri 0xFFFF0000 = 0 := by decide
/-- 3.4: INC at both ends of the rate's range. -/
theorem witness_Increment : (1 : Nat) ≤ 163840 ∧ (163840 : Nat) ≤ 2 ^ 31 - 1 ∧ (163839 : Int) ≤ (163840 : Nat) - 1 ∧
    (inc 163840 0).toNat = 0 ∧ (inc 163840 163839).toNat = 4294941081 := by decide
theorem witness_EngineContract : getEffect full.en .reverb = false ∧ tcSupplied.EFFECT_IMPL = .supplied ∧
    getEffect (enabled .reverb (State.resetWith tcSupplied)).en .reverb = true := by decide
theorem witness_EnginesReadOnly : getEffect (enabled .reverb full).en .chorus = getEffect full.en .chorus ∧
    full.cfg.EFFECT_IMPL = .ref := by decide
theorem witness_WarmState : (enabled .reverb full).en.delay = full.en.delay ∧
    (enabled .reverb full).en.chorus = full.en.chorus ∧ (enabled .reverb full).en.tremolo = full.en.tremolo ∧
    full.cfg.EFFECT_IMPL = .ref ∧ (∃ t, exec (.tick 8000) full = .next t) ∧
    (∃ u, exec (.tick 8000) { full with en := (enabled .reverb full).en } = .next u) :=
  ⟨rfl, rfl, rfl, rfl, ⟨_, rfl⟩, _, rfl⟩
/-- On both sides of the tap distance 2, and with no swing. -/
theorem witness_ChorusEngine : full.cfg.range.chorusLen.MIN ≤ paramVal full .chorusLen ∧
    paramVal full .chorusLen ≤ full.cfg.range.chorusLen.MAX ∧ (enabled .chorus full).en.chorus = true ∧
    ((3 : Nat) : Int) > chorusOff full ∧ ((2 : Nat) : Int) ≤ chorusOff full ∧ full.en.chorus = false ∧
    1 ≤ full.cfg.CH_SWING ∧ tcStill.CH_SWING = 0 ∧ tcStill.EFFECT_IMPL = .ref := by decide
theorem witness_TremoloEngine : 1 ≤ paramVal full .tremDepth ∧ paramVal full .tremDepth ≤ 256 ∧
    paramVal (paramWrite .tremDepth 0 full) .tremDepth = 0 ∧ paramVal (paramWrite .tremDepth 256 full) .tremDepth = 256 ∧
    (enabled .tremolo full).en.tremolo = true ∧ full.en.tremolo = false := by decide
theorem witness_BassBoostEngine : |(-2147483647 : Int)| ≤ 2 ^ 31 - 1 ∧ full.cfg.EFFECT_IMPL = .ref ∧
    (enabled .bass full).en.bass = true ∧ paramVal (paramWrite .bassGain 0 full) .bassGain = 0 := by decide
theorem witness_ReverbEngine : (enabled .reverb full).en.reverb = true ∧ 6 > full.cfg.RV_D2 ∧ 5 ≤ full.cfg.RV_D2 ∧
    paramVal (paramWrite .revMix 0 full) .revMix = 0 ∧ paramVal (paramWrite .revMix 256 full) .revMix = 256 := by decide
theorem witness_ReferenceChainBounds : Inv two ∧ |(2147483647 : Int)| ≤ 2 ^ 31 - 1 ∧
    |(-551903297279 : Int)| ≤ 257 * (2 ^ 31 - 1) := ⟨inv_two, by decide⟩
theorem witness_TickFrame : 5 ≠ full.wr_cursor.toNat % full.cfg.BUF_N ∧ full.cfg.EFFECT_IMPL = .ref ∧
    (State.resetWith tcSupplied).cfg.EFFECT_IMPL = .supplied := by decide
theorem witness_OutputIsMidLevel : 2 ≤ Config.tc.OUTPUT_SCALE ∧ tcNarrow.OUTPUT_SCALE ≤ 1 ∧ hardClip tcNarrow 5 ≤ 0 ∧
    Config.tc.OUT_CLIP ≤ Config.tc.OUTPUT_SCALE / 2 := by decide
theorem witness_ConstantInput : InRawRange 100 ∧
    on (runEvents (List.replicate 2 (.tick 100)) (State.resetWith Config.tc)) (fun t => t.outputs) =
      some [4000, 4000] := by decide

theorem witness_EncoderReading : full.cw_seen = false ∧ full.ccw_seen = false ∧
    ({ full with enc_prev := 0b10 } : State).enc_prev = 0b10#2 ∧
    ({ full with enc_prev := 0b01 } : State).enc_prev = 0b01#2 ∧
    ({ full with enc_prev := 0b11 } : State).enc_prev = 0b11#2 ∧ full.enc_prev = 0b00#2 := by decide
theorem witness_CleanCycle : full.cw_seen = false ∧ full.ccw_seen = false ∧ full.enc_prev = 0b00#2 ∧
    ({ full with enc_prev := 0b10 } : State).enc_prev = 0b10#2 := by decide
theorem witness_BounceAtRest : (State.resetWith Config.tc).cw_seen = false ∧ (State.resetWith Config.tc).ccw_seen = false ∧
    (State.resetWith Config.tc).enc_prev = 0b00#2 := by decide
theorem witness_Rotation : (∀ e ∈ [Effect.delay, .chorus, .tremolo, .bass, .reverb], getEffect full.en e = false) ∧
    getEffect (enabled .tremolo (enabled .reverb full)).en .tremolo = true ∧
    (∀ e ∈ [Effect.delay, .chorus], getEffect (enabled .tremolo (enabled .reverb full)).en e = false) := by decide
theorem witness_SetParameter : Param.chorusRate ≠ .tremRate ∧ Param.delayLen ≠ .chorusRate := by decide
/-- A delta of 100, not accepted, and of 101, accepted (D-2, D-3); two buttons rise at once; none rises. -/
theorem witness_ButtonReading :
    (pressed 0 100).any_accepted = true ∧
    ((pressed 0 100).tick_count.toNat + 2 ^ 32 - (pressed 0 100).last_any.toNat) % 2 ^ 32 ≤
      (pressed 0 100).cfg.DEBOUNCE_TICKS ∧
    ((pressed 0 101).tick_count.toNat + 2 ^ 32 - (pressed 0 101).last_any.toNat) % 2 ^ 32 >
      (pressed 0 101).cfg.DEBOUNCE_TICKS ∧
    Effect.chorus.button &&& 0b110010#6 ≠ 0 ∧ Effect.chorus.button &&& (pressed 0 101).btn_prev = 0 ∧
    Effect.delay.button &&& 0b110010#6 = 0 ∧
    (∀ e ∈ [Effect.delay, .chorus, .tremolo, .bass, .reverb], e.button &&& 0b100000#6 = 0) := by decide
theorem witness_SecondPress : (pressed 0 101).any_accepted = true ∧ Effect.delay.button &&& 0b000001#6 ≠ 0 ∧
    Effect.delay.button &&& (pressed 0 101).btn_prev = 0 ∧
    (∃ t, exec (.btn 0b000001) (pressed 0 101) = .next t) := ⟨by decide, by decide, by decide, _, rfl⟩
theorem witness_WithoutTicks : (pressed 0 100).any_accepted = true ∧
    ((pressed 0 100).tick_count.toNat + 2 ^ 32 - (pressed 0 100).last_any.toNat) % 2 ^ 32 =
      (pressed 0 100).cfg.DEBOUNCE_TICKS ∧
    (∃ t, runEvents [.btn 0b000001, .setp .delayLen 5, .btn 0] (pressed 0 100) = .next t) ∧
    (∃ t, runEvents [.btn 0b000001, .seten .bass true, .btn 0] (pressed 0 100) = .next t) :=
  ⟨by decide, by decide, ⟨_, rfl⟩, _, rfl⟩
theorem witness_ReadItem : (seeded Config.tc).cfg.EFFECT_IMPL = .ref ∧
    (State.resetWith tcSupplied).cfg.EFFECT_IMPL = .supplied ∧ Item.lpB ∈ [Item.phC, .phT, .lpB, .tremInc] := by decide
theorem witness_EveryStepKeeps : Inv two ∧ (∃ t, step two = .next t) ∧ (∃ t, step (two.withFetchWord 40 0) = .next t) :=
  ⟨inv_two, ⟨_, rfl⟩, _, rfl⟩

end Sys2Proof.Tests
end

section
/-! PROOFS. What a step does (spec/00_scope.md R6; spec/30_encoding.md R112). -/

namespace Sys2Proof.Machine

/-- Settles O8: the pending list, the reset input and the decoder select the branch of `step` that runs `i`, and there
`consume` replaces the pending list alone. -/
theorem stepRunsTheDecodedEvent : Obligations.StepRunsTheDecodedEvent := by
  intro s W rest i hp hr hd
  calc step s
      _ = exec i (consume rest s) := by simp [step, hp, hr, hd]
      _ = exec i { s with pending := rest } := rfl

end Sys2Proof.Machine
end

section
/-! PROOFS. Access to the delay ring (spec/20_memory.md R80, R83). -/

namespace Sys2Proof.Machine

/-- R83: what a slot of the ring reads as after a write to a slot of the ring. -/
theorem bufRead_bufWrite {s : State} {i j : Nat} (hs : Memory.wf s.buf) (hi : i < s.cfg.BUF_N) (hj : j < s.cfg.BUF_N)
    (v : Int) : bufRead (bufWrite i v s) j = if j = i then (toReg 32 v).toInt else bufRead s j := by
  have hj' : j < (bufWrite i v s).cfg.BUF_N := hj
  rw [bufRead, bufRead, bufWrite_buf, ringSlot_of_lt hi, ringSlot_of_lt hj, ringSlot_of_lt hj', Memory.read_write hs]
  split <;> rfl

/-- Settles O31: `bufRead_bufWrite` at the written slot, where a signed 32-bit value survives `toReg`, and at another. -/
theorem ringReadAfterWrite : Obligations.RingReadAfterWrite := by
  intro s i v hs hi lo hv
  refine ⟨?_, fun j hj hne => ?_, rfl⟩
  · rw [bufRead_bufWrite hs hi hi, if_pos rfl, toReg32_toInt lo hv]
  · rw [bufRead_bufWrite hs hi hj, if_neg hne]

end Sys2Proof.Machine
end

section
/-! PROOFS. The event words: what the decoder reads from a word, and the word of what it read (spec/30_encoding.md R100 to
R112). -/

namespace Sys2Proof

/-! ## The fields of a word -/

@[simp] theorem EventWord.cmd_and (W V : EventWord) : EventWord.cmd (W &&& V) = W.cmd &&& V.cmd := BitVec.extractLsb'_and

@[simp] theorem EventWord.data_and (W V : EventWord) : EventWord.data (W &&& V) = W.data &&& V.data :=
  BitVec.extractLsb'_and

/-- Two words are one when their fields are (R100). -/
theorem EventWord.ext_fields {W V : EventWord} (hc : W.cmd = V.cmd) (hd : W.data = V.data) : W = V := by
  rw [← EventWord.make_cmd_data W, hc, hd, EventWord.make_cmd_data]

@[simp] theorem cmd_encode (i : Instr) : (encode i).cmd = i.cmd := EventWord.cmd_make _ _

@[simp] theorem data_encode (i : Instr) : (encode i).data = i.data := EventWord.data_make _ _

@[simp] theorem cmd_usedBits (c : BitVec 8) : (usedBits c).cmd = 0xFF := EventWord.cmd_make _ _

/-- A command byte is its class and its sub-field (R102), whatever their widths. -/
theorem cmd_of_class {m n : Nat} {c : BitVec (m + n)} {k : BitVec m} {x : BitVec n} (hk : c.extractLsb' n m = k)
    (hx : x = c.extractLsb' 0 n) : k ++ x = c := by
  rw [← hk, hx, BitVec.extractLsb'_append_extractLsb'_eq_extractLsb' (Nat.zero_add n).symm]
  exact BitVec.extractLsb'_eq_self

/-! ## Identifiers -/

theorem Effect.id_of_ofId? {x : BitVec 3} {e : Effect} (h : Effect.ofId? x = some e) : e.id = x := by
  revert x; cases e <;> decide

theorem Effect.five_le_of_ofId?_none {x : BitVec 3} (h : Effect.ofId? x = none) : 5 ≤ x.toNat := by
  revert x; decide

theorem Param.id_of_ofId? {x : BitVec 4} {p : Param} (h : Param.ofId? x = some p) : p.id = x := by
  revert x; cases p <;> decide

theorem Param.seven_le_of_ofId?_none {x : BitVec 4} (h : Param.ofId? x = none) : 7 ≤ x.toNat := by
  revert x; decide

/-! ## What the decoder reads -/

/-- The reserved command values (R109). -/
def Reserved (c : BitVec 8) : Prop :=
  (0x01 ≤ c.toNat ∧ c.toNat ≤ 0x0F) ∨ (0x11 ≤ c.toNat ∧ c.toNat ≤ 0x1F) ∨
  (0x21 ≤ c.toNat ∧ c.toNat ≤ 0x2F) ∨ (0x35 ≤ c.toNat ∧ c.toNat ≤ 0x3F) ∨
  (0x45 ≤ c.toNat ∧ c.toNat ≤ 0x4F) ∨ (0x57 ≤ c.toNat ∧ c.toNat ≤ 0x5F) ∨
  (0x67 ≤ c.toNat ∧ c.toNat ≤ 0x6F) ∨ 0x80 ≤ c.toNat

/-- The event of `i`'s command whose data operand is the one that `d` stands for (R103, R106, R107). -/
def Instr.withData (d : BitVec 32) : Instr → Instr
  | .tick _ => .tick d.toInt
  | .enc _ => .enc (d.extractLsb' 0 2)
  | .btn _ => .btn (d.extractLsb' 0 6)
  | .seten e _ => .seten e (d.getLsbD 0)
  | .geten e => .geten e
  | .setp p _ => .setp p d.toInt
  | .getp p => .getp p
  | .rdst item => .rdst item

/-- A word under an event's command byte decodes to that event, whatever the data. -/
theorem decode_make_cmd (i : Instr) (d : BitVec 32) : decode (EventWord.make i.cmd d) = .event (i.withData d) := by
  rw [decode, EventWord.cmd_make, EventWord.data_make]
  cases i with
  | seten e v => cases e <;> (rw [Instr.cmd]; rfl)
  | geten e => cases e <;> rfl
  | setp p v => cases p <;> (rw [Instr.cmd]; rfl)
  | getp p => cases p <;> rfl
  | rdst item => cases item <;> rfl
  | _ => rw [Instr.cmd]; rfl

theorem Instr.not_reserved_cmd (i : Instr) : ¬ Reserved i.cmd := by
  unfold Reserved
  cases i with
  | seten e v => cases e <;> (rw [Instr.cmd]; decide)
  | geten e => cases e <;> (rw [Instr.cmd]; decide)
  | setp p v => cases p <;> (rw [Instr.cmd]; decide)
  | getp p => cases p <;> (rw [Instr.cmd]; decide)
  | rdst item => cases item <;> (rw [Instr.cmd]; decide)
  | _ => rw [Instr.cmd]; decide

/-- A byte in the class of SETEN or of GETEN that names no effect (R110). -/
theorem reserved_of_no_effect {c : BitVec 8} (hc : c.extractLsb' 3 5 = 0b00110#5 ∨ c.extractLsb' 3 5 = 0b01000#5)
    (he : Effect.ofId? (c.extractLsb' 0 3) = none) : Reserved c := by
  have hid := Effect.five_le_of_ofId?_none he
  simp only [← BitVec.toNat_inj, BitVec.extractLsb'_toNat, Nat.shiftRight_eq_div_pow, BitVec.toNat_ofNat] at hc hid
  unfold Reserved
  omega

/-- A byte in the class of SETP or of GETP that names no parameter (R111). -/
theorem reserved_of_no_param {c : BitVec 8} (hc : c.extractLsb' 4 4 = 0b0101#4 ∨ c.extractLsb' 4 4 = 0b0110#4)
    (hp : Param.ofId? (c.extractLsb' 0 4) = none) : Reserved c := by
  have hid := Param.seven_le_of_ofId?_none hp
  simp only [← BitVec.toNat_inj, BitVec.extractLsb'_toNat, Nat.shiftRight_eq_div_pow, BitVec.toNat_ofNat] at hc hid
  unfold Reserved
  omega

/-- A byte that fails every test of R112. -/
theorem reserved_of_no_class {c : BitVec 8} (h00 : c ≠ 0x00#8) (h10 : c ≠ 0x10#8) (h20 : c ≠ 0x20#8)
    (hse : c.extractLsb' 3 5 ≠ 0b00110#5) (hge : c.extractLsb' 3 5 ≠ 0b01000#5) (hsp : c.extractLsb' 4 4 ≠ 0b0101#4)
    (hgp : c.extractLsb' 4 4 ≠ 0b0110#4) (hrd : c.extractLsb' 4 4 ≠ 0b0111#4) : Reserved c := by
  simp only [ne_eq, ← BitVec.toNat_inj, BitVec.extractLsb'_toNat, Nat.shiftRight_eq_div_pow, BitVec.toNat_ofNat] at *
  unfold Reserved
  omega

/-- All that the decoder can answer (R112): the event whose command byte the word has, or the refusal of a reserved one. -/
theorem decode_cases (W : EventWord) :
    (∃ i : Instr, i.cmd = W.cmd ∧ decode W = .event (i.withData W.data)) ∨
    (Reserved W.cmd ∧ decode W = .refusedCmd W.cmd) := by
  fun_cases decode W with
  | case1 cmd data h => exact .inl ⟨.tick 0, h.symm, rfl⟩
  | case2 cmd data _ h => exact .inl ⟨.enc 0, h.symm, rfl⟩
  | case3 cmd data _ _ h => exact .inl ⟨.btn 0, h.symm, rfl⟩
  | case4 cmd data _ _ _ h e he => exact .inl ⟨.seten e false, cmd_of_class h (Effect.id_of_ofId? he), rfl⟩
  | case5 cmd _ _ _ h he => exact .inr ⟨reserved_of_no_effect (.inl h) he, rfl⟩
  | case6 cmd _ _ _ _ h e he => exact .inl ⟨.geten e, cmd_of_class h (Effect.id_of_ofId? he), rfl⟩
  | case7 cmd _ _ _ _ h he => exact .inr ⟨reserved_of_no_effect (.inr h) he, rfl⟩
  | case8 cmd data _ _ _ _ _ h p hp => exact .inl ⟨.setp p 0, cmd_of_class h (Param.id_of_ofId? hp), rfl⟩
  | case9 cmd _ _ _ _ _ h hp => exact .inr ⟨reserved_of_no_param (.inl h) hp, rfl⟩
  | case10 cmd _ _ _ _ _ _ h p hp => exact .inl ⟨.getp p, cmd_of_class h (Param.id_of_ofId? hp), rfl⟩
  | case11 cmd _ _ _ _ _ _ h hp => exact .inr ⟨reserved_of_no_param (.inr h) hp, rfl⟩
  | case12 cmd _ _ _ _ _ _ _ h =>
    exact .inl ⟨.rdst (Item.ofId (cmd.extractLsb' 0 4)), cmd_of_class h (Item.id_ofId _), rfl⟩
  | case13 cmd h00 h10 h20 hse hge hsp hgp hrd =>
    exact .inr ⟨reserved_of_no_class h00 h10 h20 hse hge hsp hgp hrd, rfl⟩

/-- The events that a word can decode to: those of its command byte, with the operand of its data field. -/
theorem decode_eq_event {W : EventWord} {i : Instr} (h : decode W = .event i) :
    ∃ j : Instr, j.cmd = W.cmd ∧ j.withData W.data = i := by
  rcases decode_cases W with ⟨j, hj, hd⟩ | ⟨-, hd⟩
  · exact ⟨j, hj, Decoded.event.inj (hd.symm.trans h)⟩
  · exact nomatch hd.symm.trans h

/-- The words that are refused, and the byte that the refusal names. -/
theorem decode_eq_refusedCmd {W : EventWord} {c : BitVec 8} (h : decode W = .refusedCmd c) :
    c = W.cmd ∧ Reserved W.cmd := by
  rcases decode_cases W with ⟨j, -, hd⟩ | ⟨hr, hd⟩
  · exact nomatch hd.symm.trans h
  · exact ⟨Decoded.refusedCmd.inj (h.symm.trans hd), hr⟩

/-! ## The round trips -/

/-- The value of a data field is in the field's range (R103). -/
theorem inRawRange_toInt (d : BitVec 32) : InRawRange d.toInt :=
  ⟨BitVec.le_toInt d, Int.le_sub_one_of_lt BitVec.toInt_lt⟩

theorem toInt_ofInt_of_inRawRange {x : Int} (h : InRawRange x) : (BitVec.ofInt 32 x).toInt = x :=
  Machine.toReg32_toInt h.1 h.2

/-- The event's own data field gives the event back (R103). -/
theorem Instr.withData_data {i : Instr} (h : i.wf = true) : i.withData i.data = i := by
  cases i with
  | tick raw => rw [withData, data, toInt_ofInt_of_inRawRange (of_decide_eq_true h)]
  | setp p value => rw [withData, data, toInt_ofInt_of_inRawRange (of_decide_eq_true h)]
  | enc ab => rw [withData, data, BitVec.extractLsb'_setWidth_of_le (by decide), BitVec.extractLsb'_eq_self]
  | btn lv => rw [withData, data, BitVec.extractLsb'_setWidth_of_le (by decide), BitVec.extractLsb'_eq_self]
  | seten e v => rw [withData, data]; cases v <;> rfl
  | _ => rfl

/-- An event read from a data field has operands of the field (R103). -/
theorem Instr.withData_wf (i : Instr) (d : BitVec 32) : (i.withData d).wf = true := by
  cases i with
  | tick raw => exact decide_eq_true (inRawRange_toInt d)
  | setp p value => exact decide_eq_true (inRawRange_toInt d)
  | _ => rfl

@[simp] theorem Instr.withData_cmd (i : Instr) (d : BitVec 32) : (i.withData d).cmd = i.cmd := by cases i <;> rfl

/-- The low bits of a data field, as a data field. -/
theorem setWidth_extractLsb'_low (d : BitVec 32) (w : Nat) :
    (d.extractLsb' 0 w).setWidth 32 = d &&& BitVec.ofNat 32 (2 ^ w - 1) := by
  apply BitVec.eq_of_getLsbD_eq
  intro i hi
  rw [BitVec.getLsbD_setWidth, BitVec.getLsbD_extractLsb', BitVec.getLsbD_and, BitVec.getLsbD_ofNat,
    Nat.testBit_two_pow_sub_one, Nat.zero_add, decide_eq_true hi, Bool.true_and, Bool.true_and, Bool.and_comm]

/-- An event read from a data field has the field's bits that its format names, and no other (R102, R105). -/
theorem Instr.data_withData (i : Instr) (d : BitVec 32) : (i.withData d).data = d &&& (usedBits i.cmd).data := by
  have all : BitVec.ofInt 32 d.toInt = d &&& 0xFFFFFFFF := BitVec.ofInt_toInt.trans BitVec.and_allOnes.symm
  have flag : (BitVec.ofBool (d.getLsbD 0)).setWidth 32 = d &&& 0x1 := by
    have h1 : BitVec.ofBool (d.getLsbD 0) = d.extractLsb' 0 1 := by
      ext i hi
      obtain rfl : i = 0 := by omega
      simp
    rw [h1]
    exact setWidth_extractLsb'_low d 1
  rw [usedBits, EventWord.data_make]
  cases i with
  | tick raw => exact all
  | enc ab => exact setWidth_extractLsb'_low d 2
  | btn lv => exact setWidth_extractLsb'_low d 6
  | seten e v => rw [cmd]; cases e <;> exact flag
  | geten e => cases e <;> exact BitVec.and_zero.symm
  | setp p value => rw [cmd]; cases p <;> exact all
  | getp p => cases p <;> exact BitVec.and_zero.symm
  | rdst item => cases item <;> exact BitVec.and_zero.symm

/-- Settles O2: the word of an event has the event's command byte, and its data field gives the operands back. -/
theorem decodeOfEncodeIsTheEvent : Obligations.DecodeOfEncodeIsTheEvent := by
  intro i hi
  rw [encode, decode_make_cmd, Instr.withData_data hi]

/-- Settles O3: a decoded event was read from the word's own fields, so its command byte is the word's and its data field
the word's under the used bits. -/
theorem encodeOfDecodeIsTheWordsUsedBits : Obligations.EncodeOfDecodeIsTheWordsUsedBits := by
  intro W i h
  obtain ⟨j, hj, rfl⟩ := decode_eq_event h
  refine ⟨EventWord.ext_fields ?_ ?_, j.withData_wf _⟩
  · rw [cmd_encode, Instr.withData_cmd, hj, EventWord.cmd_and, cmd_usedBits]
    exact BitVec.and_allOnes.symm
  · rw [data_encode, Instr.data_withData, hj, EventWord.data_and]

/-- Settles O4: what a word under an event's command byte decodes to depends on the operand bits of its data alone. -/
theorem ignoredBitsCarryNoMeaning : Obligations.IgnoredBitsCarryNoMeaning := by
  intro d d'
  have enc (d : BitVec 32) : decode (EventWord.make 0x10 d) = .event (.enc (d.extractLsb' 0 2)) :=
    decode_make_cmd (.enc 0) d
  have btn (d : BitVec 32) : decode (EventWord.make 0x20 d) = .event (.btn (d.extractLsb' 0 6)) :=
    decode_make_cmd (.btn 0) d
  have seten (e : Effect) (d : BitVec 32) :
      decode (EventWord.make (0b00110#5 ++ e.id) d) = .event (.seten e (d.getLsbD 0)) := decode_make_cmd (.seten e false) d
  refine ⟨fun h => ⟨by rw [enc, enc, h], _, enc d⟩, fun h => ⟨by rw [btn, btn, h], _, btn d⟩,
    fun e h => ⟨by rw [seten, seten, h], _, seten e d⟩, fun e => decode_make_cmd (.geten e) d,
    fun p => decode_make_cmd (.getp p) d, fun n => ?_⟩
  have rdst := decode_make_cmd (.rdst (Item.ofId n)) d
  rwa [Instr.cmd, Item.id_ofId] at rdst

/-- Settles O5: the decoder refuses reserved bytes only, and no event has a reserved one. -/
theorem reservedCommandsDecodeToTheRefusal : Obligations.ReservedCommandsDecodeToTheRefusal := by
  intro W
  change _ ↔ Reserved W.cmd
  rcases decode_cases W with ⟨i, hi, hd⟩ | ⟨hr, hd⟩
  · rw [hd, ← hi]
    exact iff_of_false nofun i.not_reserved_cmd
  · exact iff_of_true hd hr

/-! ## The examples -/

/-- Settles O1: the decoder evaluated at the words of R115. -/
theorem specWordsDecode : Obligations.SpecWordsDecode := by
  unfold Obligations.SpecWordsDecode
  decide

end Sys2Proof
end

section
/-! PROOFS. The decoder and spec/opcode_table.json accept the same words (spec/30_encoding.md R108, R109). -/

namespace Sys2Proof

/-- A row fixes bits of the command byte only. -/
theorem OpcodeRow.mask_eq_make {r : OpcodeRow} (h : r ∈ opcodeTable) : r.mask = EventWord.make r.mask.cmd 0 := by
  revert r; decide

theorem OpcodeRow.matches_congr {r : OpcodeRow} (h : r ∈ opcodeTable) {W V : EventWord} (hc : W.cmd = V.cmd) :
    r.Matches W ↔ r.Matches V := by
  rw [OpcodeRow.Matches, OpcodeRow.Matches, OpcodeRow.mask_eq_make h, ← W.make_cmd_data, ← V.make_cmd_data, hc,
    Laws.make_and_mask, Laws.make_and_mask]

/-- Every event's word matches a row of its mnemonic. -/
theorem encodedRow : ∀ i : Instr, Laws.EncodedRow.Statement i
  | .tick raw => Laws.EncodedRow.tick raw
  | .enc ab => Laws.EncodedRow.enc ab
  | .btn lv => Laws.EncodedRow.btn lv
  | .seten e v => Laws.EncodedRow.seten e v
  | .geten e => Laws.EncodedRow.geten e
  | .setp p value => Laws.EncodedRow.setp p value
  | .getp p => Laws.EncodedRow.getp p
  | .rdst item => Laws.EncodedRow.rdst item

/-- The bits that a row fixes bound the words that match it. -/
theorem OpcodeRow.bounds_of_matches {r : OpcodeRow} {W : EventWord} (h : r.Matches W) :
    r.pattern.toNat ≤ W.toNat ∧ W.toNat ≤ (r.pattern ||| ~~~r.mask).toNat := by
  rw [← show W &&& r.mask = r.pattern from h]
  constructor
  · rw [BitVec.toNat_and]
    exact Nat.and_le_left
  · have hor : (W &&& r.mask) ||| ~~~r.mask = W ||| ~~~r.mask := by
      ext i hi; cases hb : r.mask[i] <;> simp [hb]
    rw [hor, BitVec.toNat_or]
    exact Nat.left_le_or

theorem EventWord.toNat_cmd (W : EventWord) : W.cmd.toNat = W.toNat / 2 ^ 32 := by
  rw [EventWord.cmd, BitVec.extractLsb'_toNat, Nat.shiftRight_eq_div_pow]; omega

/-- No row of the table has a reserved command value (R109). -/
theorem OpcodeRow.not_matches_of_reserved {W : EventWord} (h : Reserved W.cmd) : ∀ r ∈ opcodeTable, ¬ r.Matches W := by
  intro r hr hm
  have hb := OpcodeRow.bounds_of_matches hm
  unfold Reserved at h
  rw [EventWord.toNat_cmd] at h
  simp only [opcodeTable, List.cons_append, List.nil_append, List.mem_cons, List.not_mem_nil, or_false] at hr
  rcases hr with rfl | rfl | rfl | rfl | rfl | rfl | rfl | rfl | rfl | rfl | rfl | rfl | rfl | rfl <;>
    (simp only [BitVec.reduceNot, BitVec.reduceOr, BitVec.reduceToNat] at hb; omega)

/-- Two rows that one word matches are one row: their patterns agree where both masks look. -/
theorem OpcodeRow.eq_of_matches {r r' : OpcodeRow} (hr : r ∈ opcodeTable) (hr' : r' ∈ opcodeTable) {W : EventWord}
    (h : r.Matches W) (h' : r'.Matches W) : r = r' := by
  have apart : ∀ r ∈ opcodeTable, ∀ r' ∈ opcodeTable, r.pattern &&& r'.mask = r'.pattern &&& r.mask → r = r' := by
    decide
  apply apart r hr r' hr'
  rw [← show W &&& r.mask = r.pattern from h, ← show W &&& r'.mask = r'.pattern from h', BitVec.and_assoc,
    BitVec.and_assoc, BitVec.and_comm r.mask]

/-- Settles O6: a decoded event's own word has a row and a row looks at the command byte alone; a refused byte is
reserved, and every row's words lie between reserved ranges. -/
theorem decoderAgreesWithTheOpcodeTable : Obligations.DecoderAgreesWithTheOpcodeTable := by
  refine ⟨fun W i h => ?_, fun W c h => ?_, fun W r hr r' hr' => OpcodeRow.eq_of_matches hr hr'⟩
  · obtain ⟨j, hj, rfl⟩ := decode_eq_event h
    obtain ⟨r, hr, hm, hn⟩ := encodedRow (j.withData W.data)
    exact ⟨r, hr, (OpcodeRow.matches_congr hr (by simp [hj])).1 hm, hn⟩
  · obtain ⟨hc, hres⟩ := decode_eq_refusedCmd h
    exact ⟨hc, OpcodeRow.not_matches_of_reserved hres⟩

end Sys2Proof
end

section
/-! PROOFS. What a line of text stands for: events and pseudo-events (spec/30_encoding.md R113, R114). -/

namespace Sys2Proof.Asm

theorem inField_eq_some {x y : Int} (h : inField x = some y) : InRawRange y := by
  rw [inField] at h
  split at h
  next hx => exact Option.some.inj h ▸ hx
  next => cases h

/-- Every form of `<int>` stands for an integer of the 32-bit field (R113). -/
theorem integer_inRawRange {cs : List Char} {x : Int} (h : integer cs = some x) : InRawRange x := by
  have decimal_form {o : Option Nat} {f : Nat → Int} (h : (o.bind fun n => inField (f n)) = some x) : InRawRange x := by
    obtain ⟨n, -, hx⟩ := Option.bind_eq_some_iff.1 h
    exact inField_eq_some hx
  revert h
  fun_cases integer cs with
  | case1 cs hlen =>
    intro h
    obtain ⟨n, -, rfl⟩ := Option.map_eq_some_iff.1 h
    exact inRawRange_toInt _
  | case2 => nofun
  | case3 cs => exact decimal_form
  | case4 cs => exact decimal_form

/-- Every event of the list is well formed. -/
def AllWf (is : List Instr) : Prop := ∀ i ∈ is, i.wf = true

theorem allWf_singleton {i : Instr} (h : i.wf = true) : AllWf [i] := List.forall_mem_singleton.2 h

theorem allWf_of_map {α : Type} {o : Option α} {f : α → List Instr} {is : List Instr}
    (hf : ∀ x, o = some x → AllWf (f x)) (h : o.map f = some is) : AllWf is := by
  obtain ⟨x, hx, rfl⟩ := Option.map_eq_some_iff.1 h
  exact hf x hx

theorem allWf_of_bind {α : Type} {o : Option α} {f : α → Option (List Instr)} {is : List Instr}
    (hf : ∀ x, f x = some is → AllWf is) (h : o.bind f = some is) : AllWf is := by
  obtain ⟨x, -, hx⟩ := Option.bind_eq_some_iff.1 h
  exact hf x hx

theorem press_allWf (e : Effect) : AllWf (Pseudo.press e).expand := by
  cases e <;> (unfold AllWf; decide)

theorem rotations_allWf : AllWf Pseudo.rotcw.expand ∧ AllWf Pseudo.rotccw.expand := by
  unfold AllWf
  decide

theorem idle_allWf (n : Nat) {raw : Int} (h : InRawRange raw) : AllWf (Pseudo.idle n raw).expand :=
  List.forall_mem_replicate.2 (.inr (decide_eq_true h))

theorem event0_allWf {op : List Char} {is : List Instr} : event0 op = some is → AllWf is := by
  fun_cases event0 op with
  | case1 => exact fun h => Option.some.inj h ▸ rotations_allWf.1
  | case2 => exact fun h => Option.some.inj h ▸ rotations_allWf.2
  | case3 => nofun

theorem event1_allWf {op a : List Char} {is : List Instr} : event1 op a = some is → AllWf is := by
  fun_cases event1 op a with
  | case1 => exact allWf_of_map fun _ hx => allWf_singleton (decide_eq_true (integer_inRawRange hx))
  | case7 => exact allWf_of_map fun e _ => press_allWf e
  | case8 => nofun
  | _ => exact allWf_of_map fun _ _ => allWf_singleton rfl

theorem event2_allWf {op a b : List Char} {is : List Instr} : event2 op a b = some is → AllWf is := by
  fun_cases event2 op a b with
  | case1 => exact allWf_of_bind fun _ => allWf_of_map fun _ _ => allWf_singleton rfl
  | case2 =>
    exact allWf_of_bind fun _ => allWf_of_map fun _ hx => allWf_singleton (decide_eq_true (integer_inRawRange hx))
  | case3 => exact allWf_of_bind fun n => allWf_of_map fun _ hx => idle_allWf n (integer_inRawRange hx)
  | case4 => nofun

/-- A line of each length has a meaning only as an event or a pseudo-event of that many operands. -/
theorem line_allWf {text : List Char} {is : List Instr} : line text = some is → AllWf is := by
  fun_cases line text with
  | case1 => exact fun h => Option.some.inj h ▸ List.forall_mem_nil _
  | case2 => exact event0_allWf
  | case3 => exact event1_allWf
  | case4 => exact event2_allWf
  | case5 => nofun
  | case6 => nofun

/-- Settles O7: `line_allWf`; the numbers of TICK, SETP and IDLE pass `integer_inRawRange`, and no other operand can be
out of range. -/
theorem assembledEventsAreWellFormed : Obligations.AssembledEventsAreWellFormed :=
  fun _ _ => line_allWf

end Sys2Proof.Asm
end

section
/-! PROOFS. What a tick leaves unchanged (spec/40_tick.md R134, R135; spec/10_state.md R41). -/

namespace Sys2Proof.Machine

/-! ## An engine under each kind of EFFECT_IMPL (spec/43_effects.md R194 to R204) -/

section
variable (y : Int) (w0 sw : Nat) {s : State}

theorem chorus_of_ref (h : s.cfg.EFFECT_IMPL = .ref) :
    chorus y w0 sw s = (chorusRefOut y w0 sw s, { s with ph_c := s.ph_c + s.ch_inc }) := by
  simp only [chorus, h]

theorem chorus_of_supplied (h : s.cfg.EFFECT_IMPL = .supplied) :
    chorus y w0 sw s = (suppliedOut .chorus (engineView .chorus w0 sw s) y s.supplied.chorus,
      { s with supplied := { s.supplied with
          chorus := suppliedNext .chorus (engineView .chorus w0 sw s) y s.supplied.chorus } }) := by
  simp only [chorus, h]

theorem tremolo_of_ref (h : s.cfg.EFFECT_IMPL = .ref) :
    tremolo y w0 sw s = (tremoloRefOut y s, { s with ph_t := s.ph_t + s.trem_inc }) := by
  simp only [tremolo, h]

theorem tremolo_of_supplied (h : s.cfg.EFFECT_IMPL = .supplied) :
    tremolo y w0 sw s = (suppliedOut .tremolo (engineView .tremolo w0 sw s) y s.supplied.tremolo,
      { s with supplied := { s.supplied with
          tremolo := suppliedNext .tremolo (engineView .tremolo w0 sw s) y s.supplied.tremolo } }) := by
  simp only [tremolo, h]

theorem bass_of_ref (h : s.cfg.EFFECT_IMPL = .ref) :
    bass y w0 sw s =
      (bassRefOut y { s with lp_b := toReg 64 (nextLp y s) }, { s with lp_b := toReg 64 (nextLp y s) }) := by
  simp only [bass, h]

theorem bass_of_supplied (h : s.cfg.EFFECT_IMPL = .supplied) :
    bass y w0 sw s = (suppliedOut .bass (engineView .bass w0 sw s) y s.supplied.bass,
      { s with supplied := { s.supplied with
          bass := suppliedNext .bass (engineView .bass w0 sw s) y s.supplied.bass } }) := by
  simp only [bass, h]

theorem reverb_of_ref (h : s.cfg.EFFECT_IMPL = .ref) : reverb y w0 sw s = (reverbRefOut y w0 sw s, s) := by
  simp only [reverb, h]

theorem reverb_of_supplied (h : s.cfg.EFFECT_IMPL = .supplied) :
    reverb y w0 sw s = (suppliedOut .reverb (engineView .reverb w0 sw s) y s.supplied.reverb,
      { s with supplied := { s.supplied with
          reverb := suppliedNext .reverb (engineView .reverb w0 sw s) y s.supplied.reverb } }) := by
  simp only [reverb, h]

/-- The reference chain leaves the supplied states as they are. -/
theorem chain_supplied_of_ref (h : s.cfg.EFFECT_IMPL = .ref) : (chain y w0 sw s).2.supplied = s.supplied := by
  simp only [chain, chorus_of_ref, tremolo_of_ref, bass_of_ref, reverb_of_ref, h]

/-- A supplied chain leaves the reference engines' states as they are. -/
theorem chain_refStates_of_supplied (h : s.cfg.EFFECT_IMPL = .supplied) :
    (chain y w0 sw s).2.ph_c = s.ph_c ∧ (chain y w0 sw s).2.ph_t = s.ph_t ∧ (chain y w0 sw s).2.lp_b = s.lp_b := by
  simp only [chain, chorus_of_supplied, tremolo_of_supplied, bass_of_supplied, reverb_of_supplied, h, and_self]

end

/-! ## The whole tick -/

/-- Settles O43: `tickState_eq` lists what a tick writes; it writes the ring at the reduced cursor alone, and its chain
writes the states of the chosen engine set alone. -/
theorem tickFrame : Obligations.TickFrame := by
  intro raw s
  obtain ⟨pc, pt, lp, x, ht, rfl, rfl, rfl, rfl⟩ := tickState_eq raw s
  refine ⟨tickState raw s, rfl, ?_⟩
  rw [ht]
  exact ⟨BitVec.toNat_add s.tick_count 1, ⟨rfl, rfl, rfl, rfl⟩, ⟨rfl, rfl, rfl⟩, ⟨rfl, rfl, rfl, rfl⟩,
    ⟨rfl, rfl, rfl, rfl⟩, fun i hi => Memory.read_write_ne s.buf hi _,
    chain_supplied_of_ref _ _ _ (s := (conditioner raw (countTick s)).2),
    chain_refStates_of_supplied _ _ _ (s := (conditioner raw (countTick s)).2)⟩

end Sys2Proof.Machine
end

section
/-! PROOFS. Which fields each kind of event writes (spec/10_state.md R32; spec/40_tick.md R135; spec/47_host.md R275). -/

namespace Sys2Proof.Machine

/-- All that a rotation writes: the parameters and their increments (R258, R260). -/
theorem rotDispatch_state (dir : Int) (s : State) :
    ∃ p c m, rotDispatch dir s = { s with param := p, ch_inc := c, trem_inc := m } := by
  rcases rotDispatch_cases dir s with ⟨-, h⟩ | ⟨e, -, h⟩
  · exact ⟨s.param, s.ch_inc, s.trem_inc, h⟩
  · exact ⟨_, _, _, h.trans (paramWrite_eq _ _ s)⟩

/-- One turn of the dispatch: a rotation if its flag is set. -/
theorem ite_rotDispatch_state (flag : Bool) (dir : Int) (s : State) :
    ∃ p c m, (if flag then rotDispatch dir s else s) = { s with param := p, ch_inc := c, trem_inc := m } := by
  cases flag with
  | true => exact rotDispatch_state dir s
  | false => exact ⟨s.param, s.ch_inc, s.trem_inc, rfl⟩

/-- All that an encoder reading writes, in every state, whatever the rotation flags (R241 to R245). -/
theorem encState_state (ab : BitVec 2) (s : State) :
    ∃ p c m, encState ab s =
      { s with enc_prev := ab, cw_seen := false, ccw_seen := false, param := p, ch_inc := c, trem_inc := m } := by
  obtain ⟨p1, c1, m1, h1⟩ := ite_rotDispatch_state (latchRotation ab s).cw_seen 1 (latchRotation ab s)
  obtain ⟨p2, c2, m2, h2⟩ := ite_rotDispatch_state (latchRotation ab s).ccw_seen (-1)
    { latchRotation ab s with param := p1, ch_inc := c1, trem_inc := m1 }
  refine ⟨p2, c2, m2, ?_⟩
  rw [encState, dispatchRotation, h1, h2]
  rfl

/-- All that a button reading writes: the enable flags and the debounce state (R250 to R254). -/
theorem btnState_state (lv : BitVec 6) (s : State) :
    ∃ en lb la aa, btnState lv s =
      { s with btn_prev := lv, en := en, last_btn := lb, last_any := la, any_accepted := aa } := by
  have hnone : ∃ en lb la aa, { s with btn_prev := lv } =
      { s with btn_prev := lv, en := en, last_btn := lb, last_any := la, any_accepted := aa } :=
    ⟨s.en, s.last_btn, s.last_any, s.any_accepted, rfl⟩
  rw [btnState_eq]
  split
  · split
    · exact ⟨_, _, _, _, rfl⟩
    · exact hnone
  · exact hnone

/-- Settles O16: for each kind of event, the equation that lists all it writes; every group it lists belongs to it. -/
theorem fieldsAreWrittenByTheirOwnersOnly : Obligations.FieldsAreWrittenByTheirOwnersOnly := by
  intro i s t h
  obtain rfl := exec_next.1 h
  simp only [KeepsAudio, KeepsConditioner, KeepsRing, KeepsTimeAndOutput, KeepsEngines, KeepsQuadrature, KeepsDebounce,
    KeepsPresses, KeepsParams, KeepsRest]
  cases i with
  | tick raw =>
    obtain ⟨_, _, _, _, ht, -⟩ := tickState_eq raw s
    simp [execState, ht]
  | enc ab =>
    obtain ⟨_, _, _, he⟩ := encState_state ab s
    simp [execState, he]
  | btn lv =>
    obtain ⟨_, _, _, _, hb⟩ := btnState_state lv s
    simp [execState, hb]
  | setp p v =>
    rw [execState, paramWrite_eq]
    simp
  | seten _ _ | geten _ | getp _ | rdst _ => simp [execState]

end Sys2Proof.Machine
end

section
/-! PROOFS. The conditioner on a tick: its registers, and the bounds of its values (spec/41_conditioner.md R140 to R157). -/

namespace Sys2Proof.Machine

/-! ## The registers after a tick, read from the state after it -/

theorem exec_tick_next {raw : Int} {s t : State} : exec (.tick raw) s = .next t ↔ t = tickState raw s := exec_next

@[simp] theorem tickState_cfg (raw : Int) (s : State) : (tickState raw s).cfg = s.cfg := by
  obtain ⟨_, _, _, _, ht, -⟩ := tickState_eq raw s
  rw [ht]

/-- What follows the conditioner in a tick leaves its registers as it wrote them (R131). -/
theorem tickState_keepsConditioner (raw : Int) (s : State) :
    KeepsConditioner (conditioner raw (countTick s)).2 (tickState raw s) := by
  obtain ⟨_, _, _, _, ht, -⟩ := tickState_eq raw s
  rw [ht]
  exact ⟨rfl, rfl, rfl, rfl⟩

@[simp] theorem tickState_bias_seeded (raw : Int) (s : State) : (tickState raw s).bias_seeded = true :=
  (tickState_keepsConditioner raw s).2.1

theorem tickState_bias (raw : Int) (s : State) : (tickState raw s).bias = (conditioner raw (countTick s)).2.bias :=
  (tickState_keepsConditioner raw s).1

/-- R140: the first tick seeds the bias with the sample. -/
theorem tickState_bias_of_unseeded {raw : Int} {s : State} (hr : InRawRange raw) (hs : s.bias_seeded = false) :
    (tickState raw s).bias.toInt = raw := by
  rw [tickState_bias, conditioner_bias, nextBias, countTick_bias_seeded, hs, if_neg Bool.false_ne_true]
  exact toReg32_toInt hr.1 hr.2

/-- R140: every later tick moves it by the shifted difference. -/
theorem tickState_bias_of_seeded {raw : Int} {s : State} (hr : InRawRange raw) (hs : s.bias_seeded = true) :
    (tickState raw s).bias.toInt = s.bias.toInt + (raw - s.bias.toInt) / 2 ^ s.cfg.DC_K := by
  obtain ⟨hlo, hhi⟩ := nextBias_bounds hr (countTick s)
  rw [tickState_bias, conditioner_bias, toReg32_toInt hlo hhi, nextBias, countTick_bias_seeded, hs, if_pos rfl,
    countTick_bias, countTick_cfg, asr_eq_div]

/-- R142, from the bias the same tick wrote. -/
theorem tickState_hpf_lp_toInt {raw : Int} (s : State) (hr : InRawRange raw) : (tickState raw s).hpf_lp.toInt =
    s.hpf_lp.toInt + (biasRemoved (tickState raw s) raw - s.hpf_lp.toInt) * s.cfg.HPF_COEFF / 2 ^ 8 := by
  obtain ⟨hb, -, hh, -⟩ := tickState_keepsConditioner raw s
  rw [hh, conditioner_hpf_lp_toInt raw (countTick s) hr, biasRemoved, hb, countTick_hpf_lp, countTick_cfg]

/-- R145 to R147, from the level of the same tick. -/
theorem tickState_gain (raw : Int) (s : State) : ((tickState raw s).agc_gain.toNat : Int) =
    nextGain s.cfg s.agc_gain.toNat (scaledSample (tickState raw s) raw) := by
  obtain ⟨hb, -, hh, hg⟩ := tickState_keepsConditioner raw s
  rw [hg]
  exact conditioner_gain raw (countTick s) _ hb hh (tickState_cfg raw s)

/-- R152: the sample that enters the ring. -/
theorem tickSample_eq (raw : Int) (s : State) : tickSample raw s = conditionedSample (tickState raw s) raw := by
  obtain ⟨hb, -, hh, hg⟩ := tickState_keepsConditioner raw s
  exact conditioner_sample raw (countTick s) _ hb hh hg (tickState_cfg raw s)

/-! ## The bias (R140, R153, R155) -/

/-- Settles O17: `tickState_bias_of_unseeded` and `tickState_bias_of_seeded`, the two cases of R140. -/
theorem tickUpdatesTheBias : Obligations.TickUpdatesTheBias := fun raw s hr =>
  ⟨tickState raw s, rfl, tickState_bias_seeded raw s, tickState_bias_of_unseeded hr, tickState_bias_of_seeded hr⟩

/-- A seeded bias lies between `lo` and `hi`. -/
def BiasWithin (lo hi : Int) (s : State) : Prop := s.bias_seeded = true → lo ≤ s.bias.toInt ∧ s.bias.toInt ≤ hi

theorem tickState_bias_within {lo hi raw : Int} {s : State} (hr : InRawRange raw) (hraw : lo ≤ raw ∧ raw ≤ hi)
    (hs : BiasWithin lo hi s) : lo ≤ (tickState raw s).bias.toInt ∧ (tickState raw s).bias.toInt ≤ hi := by
  cases hb : s.bias_seeded with
  | false => rwa [tickState_bias_of_unseeded hr hb]
  | true => rw [tickState_bias_of_seeded hr hb]; exact ema_between _ (hs hb) hraw

/-- Only a tick writes the conditioner's registers (R32, R135). -/
theorem tick_or_keepsConditioner (i : Instr) (s : State) :
    (∃ raw, i = .tick raw) ∨ KeepsConditioner s (execState i s) :=
  (fieldsAreWrittenByTheirOwnersOnly i s _ (exec_eq i s)).1.imp_right And.left

/-- Every event keeps a seeded bias seeded (R34). -/
theorem execState_seeded (i : Instr) {s : State} (hs : s.bias_seeded = true) :
    (execState i s).bias_seeded = true := by
  rcases tick_or_keepsConditioner i s with ⟨raw, rfl⟩ | ⟨-, hk, -⟩
  · exact tickState_bias_seeded raw s
  · exact hk.trans hs

/-- A run with a tick in it ends with a seeded bias. -/
theorem runEvents_seeded {raw : Int} {is : List Instr} {s t : State} (hi : .tick raw ∈ is)
    (h : runEvents is s = .next t) : t.bias_seeded = true := by
  induction is generalizing s with
  | nil => exact nomatch hi
  | cons i is ih =>
    rw [runEvents_cons] at h
    rcases List.mem_cons.1 hi with rfl | hi
    · exact runEvents_induct (P := fun s => s.bias_seeded = true) (fun i _ _ => execState_seeded i)
        (tickState_bias_seeded raw s) h
    · exact ih hi h

/-- An event whose sample, if it has one, lies between the bounds keeps the bias between them. -/
theorem execState_bias_within {lo hi : Int} {i : Instr} {s : State} (hw : i.wf = true)
    (hraw : ∀ raw, i = .tick raw → lo ≤ raw ∧ raw ≤ hi) (hs : BiasWithin lo hi s) :
    BiasWithin lo hi (execState i s) := by
  rcases tick_or_keepsConditioner i s with ⟨raw, rfl⟩ | ⟨hb, hk, -⟩
  · exact fun _ => tickState_bias_within (of_decide_eq_true hw) (hraw raw rfl) hs
  · rwa [BiasWithin, hb, hk]

/-- Settles O18: the tick's step lemma `tickState_bias_within`, carried along the run, which begins unseeded and whose
tick leaves the bias seeded. -/
theorem biasStaysBetweenTheSamples : Obligations.BiasStaysBetweenTheSamples := by
  refine ⟨fun lo hi raw s t hr hlo hhi hs h => ?_, fun c is t lo hi hw ⟨raw, hi'⟩ hraw h => ?_⟩
  · obtain rfl := exec_tick_next.1 h
    exact tickState_bias_within hr ⟨hlo, hhi⟩ hs
  · have hreset : BiasWithin lo hi (State.resetWith c) := nofun
    have hend : BiasWithin lo hi t := runEvents_induct (fun i hi s =>
      execState_bias_within (hw i hi) (fun raw hr => hraw raw (hr ▸ hi))) hreset h
    exact hend (runEvents_seeded hi' h)

/-- Settles O19: a negative difference shifts to at least itself and at most -1, and a nonnegative one shifts to 0 exactly
below 2^DC_K. -/
theorem biasConvergesToAConstantInput : Obligations.BiasConvergesToAConstantInput := by
  intro r s t hr hs h
  obtain rfl := exec_tick_next.1 h
  have hb := tickState_bias_of_seeded hr hs
  refine ⟨fun hgt => ?_, fun heq => ?_, fun hlt => ⟨?_, hb, ?_⟩⟩
  · have := div_pow_neg (x := r - s.bias.toInt) s.cfg.DC_K (by omega)
    omega
  · rw [hb, heq, Int.sub_self, Int.zero_ediv, Int.add_zero]
  · have := div_pow_nonneg (x := r - s.bias.toInt) s.cfg.DC_K (by omega)
    omega
  · have hstall : (r - s.bias.toInt) / 2 ^ s.cfg.DC_K = 0 ↔ _ := Int.ediv_eq_iff_of_pos (by positivity)
    rw [← BitVec.toInt_inj, hb]
    omega

/-! ## The high-pass filter's state (R142) -/

/-- Settles O20: `tickState_hpf_lp_toInt`, which no branch on HPF_SEL enters. -/
theorem tickUpdatesTheHighPassState : Obligations.TickUpdatesTheHighPassState := fun raw s hr =>
  ⟨tickState raw s, rfl, tickState_hpf_lp_toInt s hr⟩

/-! ## The gain (R145 to R149, R154) -/

/-- R145: what the AGC compares with its threshold. -/
theorem magnitude_scaledSample (t : State) (raw : Int) : magnitude (scaledSample t raw) = level t raw :=
  Int.natCast_natAbs _

section
variable {raw : Int} {s : State}

theorem tickState_gain_of_attack (h : level (tickState raw s) raw > s.cfg.AGC_THRESH) :
    ((tickState raw s).agc_gain.toNat : Int) = attackGain s.cfg s.agc_gain.toNat (level (tickState raw s) raw) := by
  rw [tickState_gain, nextGain, magnitude_scaledSample, if_pos h]

theorem tickState_gain_of_set (h : level (tickState raw s) raw > s.cfg.AGC_THRESH) (hl : s.cfg.AGC_ATTACK = .set) :
    ((tickState raw s).agc_gain.toNat : Int) = max (s.cfg.AGC_MIN_GAIN : Int)
      (256 - (level (tickState raw s) raw - s.cfg.AGC_THRESH) / 2 ^ s.cfg.AGC_R) := by
  simp only [tickState_gain_of_attack h, attackGain, hl, asr_eq_div]

theorem tickState_gain_of_min (h : level (tickState raw s) raw > s.cfg.AGC_THRESH) (hl : s.cfg.AGC_ATTACK = .min) :
    ((tickState raw s).agc_gain.toNat : Int) = max (s.cfg.AGC_MIN_GAIN : Int) (min (s.agc_gain.toNat : Int)
      (256 - (level (tickState raw s) raw - s.cfg.AGC_THRESH) / 2 ^ s.cfg.AGC_R)) := by
  simp only [tickState_gain_of_attack h, attackGain, hl, asr_eq_div]

theorem tickState_gain_of_recovery (h : level (tickState raw s) raw ≤ s.cfg.AGC_THRESH) :
    (tickState raw s).agc_gain.toNat = min 256 (s.agc_gain.toNat + s.cfg.AGC_STEP) := by
  have hg := tickState_gain raw s
  rw [nextGain, magnitude_scaledSample, if_neg (not_lt.2 h), recoveryGain] at hg
  omega

end

/-- Settles O21: the two attack laws and the recovery. -/
theorem tickUpdatesTheGain : Obligations.TickUpdatesTheGain := fun raw s =>
  ⟨tickState raw s, rfl, tickState_gain_of_set, tickState_gain_of_min, tickState_gain_of_recovery⟩

/-- The gain stays at most 256 in every state. -/
theorem tickState_gain_le (raw : Int) (s : State) : (tickState raw s).agc_gain.toNat ≤ 256 := by
  have hg := tickState_gain raw s
  have hb := nextGain_bounds s.cfg s.agc_gain.toNat (scaledSample (tickState raw s) raw)
  omega

/-- The gain stays at least the minimum gain: an attack is bounded below by it, and a recovery does not lower the gain
under 256 (R149). -/
theorem tickState_gain_ge (raw : Int) {s : State} (hs : s.cfg.AGC_MIN_GAIN ≤ s.agc_gain.toNat) :
    s.cfg.AGC_MIN_GAIN ≤ (tickState raw s).agc_gain.toNat := by
  rcases le_or_gt (level (tickState raw s) raw) s.cfg.AGC_THRESH with h | h
  · have := s.cfg.AGC_MIN_GAIN_le
    have := tickState_gain_of_recovery h
    omega
  · cases hl : s.cfg.AGC_ATTACK with
    | set => have := tickState_gain_of_set h hl; omega
    | min => have := tickState_gain_of_min h hl; omega

/-- Settles O22: the laws of the gain, and under SET that the target falls as the level rises. -/
theorem gainAttackAndRecovery : Obligations.GainAttackAndRecovery := by
  intro raw raw' s t u hmin hmax ht hu
  obtain rfl := exec_tick_next.1 ht
  obtain rfl := exec_tick_next.1 hu
  have hset := fun h => tickState_gain_of_set (raw := raw') (s := tickState raw s) h
  rw [tickState_cfg] at hset
  have hmono : ∀ {x y : Int}, x ≤ y →
      (x - s.cfg.AGC_THRESH) / 2 ^ s.cfg.AGC_R ≤ (y - s.cfg.AGC_THRESH) / 2 ^ s.cfg.AGC_R := fun h =>
    Int.ediv_le_ediv (by positivity) (by omega)
  refine ⟨fun h hle => ?_, fun h hgt => ?_, fun h hl => ?_, fun h h' hl hle => ?_, fun h h' hl hlt => ?_,
    tickState_gain_ge raw hmin, tickState_gain_le raw s⟩
  · have := tickState_gain_of_recovery h; omega
  · have := tickState_gain_of_recovery h; omega
  · have := tickState_gain_of_min h hl; omega
  · have := tickState_gain_of_set h hl; have := hset h' hl; have := hmono hle; omega
  · have := tickState_gain_of_set h hl; have := hset h' hl; have := hmono hlt.le; omega

/-! ## The soft limiter (R150, R151, R157) -/

theorem limitIn_of_within {c : LegalConfig} {a : Int} (h : |a| ≤ c.LIM_IN_T) : limitIn c a = a := by
  obtain ⟨h1, h2⟩ := abs_le.1 h
  rw [limitIn_eq, if_neg (by omega), if_neg (by omega)]

theorem limitIn_of_gt {c : LegalConfig} {a : Int} (h : a > c.LIM_IN_T) :
    limitIn c a = c.LIM_IN_T + (a - c.LIM_IN_T) / 4 := by
  rw [limitIn_eq, if_pos h]

theorem limitIn_of_lt {c : LegalConfig} {a : Int} (h : a < -c.LIM_IN_T) :
    limitIn c a = -(c.LIM_IN_T + (-a - c.LIM_IN_T) / 4) := by
  rw [limitIn_eq, if_neg (by omega), if_pos h]

/-- Settles O23: the three branches of the limiter; the output for an input above threshold + 3 is above the threshold
itself. -/
theorem softLimiterCompressesBeyondItsThreshold : Obligations.SoftLimiterCompressesBeyondItsThreshold := by
  intro c a
  refine ⟨limitIn_of_within, fun h => ?_, fun h => ?_, fun h => ?_⟩
  · rw [limitIn_of_gt h]; omega
  · rw [limitIn_of_lt h, limitIn_of_gt (a := -a) (by omega)]; omega
  · have h1 := limitIn_of_gt (c := c) (a := a) (by omega)
    rw [limitIn_of_gt (a := limitIn c a) (by omega)]
    omega

/-- The limiter's output is no larger than its input or its threshold. -/
theorem abs_limitIn_le (c : LegalConfig) {a b : Int} (ha : |a| ≤ b) : |limitIn c a| ≤ max (c.LIM_IN_T : Int) b := by
  obtain ⟨h1, h2⟩ := abs_le.1 ha
  rw [abs_le, limitIn_eq]
  split
  · omega
  · split <;> omega

/-! ## The bounds of the conditioner's values (R156) -/

section
variable {raw : Int} {s : State}

theorem abs_biasRemoved_le (t : State) (hr : InRawRange raw) : |biasRemoved t raw| ≤ 2 ^ 32 - 1 := by
  have h1 := t.bias.le_toInt
  have h2 := t.bias.toInt_lt
  simp only [InRawRange, RAW_W] at hr
  rw [abs_le, biasRemoved]
  omega

theorem abs_tickState_hpf_lp_le (hr : InRawRange raw) (hs : |s.hpf_lp.toInt| ≤ 2 ^ 32 - 1) :
    |(tickState raw s).hpf_lp.toInt| ≤ 2 ^ 32 - 1 := by
  rw [tickState_hpf_lp_toInt s hr]
  exact abs_le.2 (onePole_between s.cfg.HPF_COEFF_le (abs_le.1 hs) (abs_le.1 (abs_biasRemoved_le _ hr)))

theorem abs_highPassed_le {t : State} (hr : InRawRange raw) (ht : |t.hpf_lp.toInt| ≤ 2 ^ 32 - 1) :
    |highPassed t raw| ≤ 2 ^ 33 - 2 :=
  (abs_sub _ _).trans (by have := abs_biasRemoved_le t hr; omega)

theorem abs_mul_le_of_abs_le {x y a b : Int} (hx : |x| ≤ a) (hy : |y| ≤ b) : |x * y| ≤ a * b :=
  (abs_mul x y).trans_le (mul_le_mul hx hy (abs_nonneg y) ((abs_nonneg x).trans hx))

theorem abs_mul_natCast_le {x a : Int} {n b : Nat} (hx : |x| ≤ a) (hn : n ≤ b) : |x * n| ≤ a * b :=
  abs_mul_le_of_abs_le hx ((Nat.abs_cast n).trans_le (by exact_mod_cast hn))

/-- A shift by at least 3 brings a 34-bit value into 31 bits. -/
theorem div_pow_fits {x : Int} {k : Nat} (hk : 3 ≤ k) (hx : |x| ≤ 2 ^ 33 - 2) :
    -2 ^ 30 ≤ x / 2 ^ k ∧ x / 2 ^ k ≤ 2 ^ 30 - 1 := by
  obtain ⟨j, rfl⟩ := Nat.exists_eq_add_of_le hk
  rw [pow_add, ← Int.ediv_ediv_of_nonneg (by positivity)]
  obtain ⟨h1, h2⟩ := abs_le.1 hx
  rcases lt_or_ge (x / 2 ^ 3) 0 with h | h
  · have := div_pow_neg j h; omega
  · have := div_pow_nonneg j h; omega

theorem scaledSample_bounds {t : State} (hr : InRawRange raw) (ht : |t.hpf_lp.toInt| ≤ 2 ^ 32 - 1) :
    -2 ^ 30 ≤ scaledSample t raw ∧ scaledSample t raw ≤ 2 ^ 30 - 1 := by
  refine div_pow_fits t.cfg.three_le_SCALE_SHIFT ?_
  split
  · exact abs_highPassed_le hr ht
  · exact (abs_biasRemoved_le t hr).trans (by norm_num)

theorem agcOut_bounds {t : State} (hr : InRawRange raw) (ht : |t.hpf_lp.toInt| ≤ 2 ^ 32 - 1)
    (hg : t.agc_gain.toNat ≤ 256) : -2 ^ 30 ≤ agcOut t raw ∧ agcOut t raw ≤ 2 ^ 30 := by
  have hs := scaledSample_bounds hr ht
  rw [agcOut]
  rcases lt_or_ge (scaledSample t raw) 0 with h | h
  · have := scaled_neg h hg; omega
  · have := scaled_nonneg h hg; omega

theorem conditionedSample_eq_limitIn (t : State) (raw : Int) :
    conditionedSample t raw = limitIn t.cfg (agcOut t raw) := by
  rw [limitIn_eq, conditionedSample]

theorem abs_conditionedSample_le {t : State} (hr : InRawRange raw) (ht : |t.hpf_lp.toInt| ≤ 2 ^ 32 - 1)
    (hg : t.agc_gain.toNat ≤ 256) : |conditionedSample t raw| ≤ max (t.cfg.LIM_IN_T : Int) (2 ^ 30) := by
  rw [conditionedSample_eq_limitIn]
  exact abs_limitIn_le _ (abs_le.2 (agcOut_bounds hr ht hg))

/-- Every sample that enters the ring is one of 32 bits, and not the least of them. -/
theorem abs_tickSample_le (hr : InRawRange raw) (hs : |s.hpf_lp.toInt| ≤ 2 ^ 32 - 1) :
    |tickSample raw s| ≤ 2 ^ 31 - 1 := by
  have hl := (tickState raw s).cfg.LIM_IN_T_le
  rw [tickSample_eq]
  exact (abs_conditionedSample_le hr (abs_tickState_hpf_lp_le hr hs) (tickState_gain_le raw s)).trans (by omega)

end

/-- Settles O24: the bounds stage by stage, from the bounds on the registers the tick wrote. -/
theorem conditionerValuesFitTheirRegisters : Obligations.ConditionerValuesFitTheirRegisters := by
  intro raw s t hr hs h
  obtain rfl := exec_tick_next.1 h
  have hd := abs_biasRemoved_le (tickState raw s) hr
  have hlp := abs_tickState_hpf_lp_le hr hs
  have hg := tickState_gain_le raw s
  obtain ⟨hlo, hhi⟩ := scaledSample_bounds hr hlp
  obtain ⟨halo, hahi⟩ := agcOut_bounds hr hlp hg
  have hmove : |biasRemoved (tickState raw s) raw - s.hpf_lp.toInt| ≤ 2 ^ 33 - 2 := (abs_sub _ _).trans (by omega)
  have hc := abs_conditionedSample_le hr hlp hg
  rw [tickState_cfg] at hc
  refine ⟨hd, hlp, abs_highPassed_le hr hlp, ?_, hlo, hhi, ?_, halo, hahi, hc, ?_⟩
  · exact (abs_mul_natCast_le hmove s.cfg.HPF_COEFF_le).trans (by norm_num)
  · exact (abs_mul_natCast_le (abs_le.2 ⟨hlo, by omega⟩) hg).trans (by norm_num)
  · rw [← tickSample_eq]; exact abs_tickSample_le hr hs

end Sys2Proof.Machine
end

section
/-! PROOFS. Every step keeps the invariant (spec/10_state.md R32 to R49; spec/41_conditioner.md R156; spec/43_effects.md
R207; spec/44_output.md R234). -/

namespace Sys2Proof.Machine

/-! ## The bound of the reference chain's low-pass state (R207) -/

theorem abs_div_pow_le {x b : Int} (k : Nat) (h : |x| ≤ b * 2 ^ k) : |x / 2 ^ k| ≤ b := by
  have hp : (0 : Int) < 2 ^ k := by positivity
  obtain ⟨hlo, hhi⟩ := abs_le.1 h
  exact abs_le.2 ⟨(Int.le_ediv_iff_mul_le hp).2 ((neg_mul b _).trans_le hlo), Int.ediv_le_of_le_mul hp hhi⟩

/-- R196: the triangle has 15 bits. -/
theorem tri_bounds (ph : BitVec 32) : 0 ≤ tri ph ∧ tri ph ≤ 32767 := by
  have := (ph.extractLsb' 16 16).isLt
  simp only [tri]
  split <;> omega

section
variable {s : State} {y : Int} {w0 sw : Nat}

theorem abs_tap_le (hring : ∀ i, |(Memory.read s.buf i).toInt| ≤ 2 ^ 31 - 1) (d : Int) :
    |tap s w0 d| ≤ 2 ^ 31 - 1 := by
  rw [tap_eq]
  exact hring _

/-- The two weights of the delay mix add up to at most 256 (R9, R173). -/
theorem abs_delayStage_le (hring : ∀ i, |(Memory.read s.buf i).toInt| ≤ 2 ^ 31 - 1) (hy : |y| ≤ 2 ^ 31 - 1) :
    |delayStage y w0 sw s| ≤ 2 ^ 31 - 1 := by
  have hw := s.cfg.weights_le
  rw [delayStage]
  split
  · have hdry := abs_mul_natCast_le hy (le_refl s.cfg.DRY_WEIGHT)
    have hwet := abs_mul_natCast_le (abs_tap_le (w0 := w0) hring (paramVal s .delayLen)) (le_refl s.cfg.WET_WEIGHT)
    rw [delayMix, asr_eq_div]
    exact abs_div_pow_le 8 ((abs_add_le _ _).trans (by omega))
  · exact hy

/-- R198: the chorus gives the mean of two samples. -/
theorem abs_chorusRefOut_le (hring : ∀ i, |(Memory.read s.buf i).toInt| ≤ 2 ^ 31 - 1) (hy : |y| ≤ 2 ^ 31 - 1) :
    |chorusRefOut y w0 sw s| ≤ 2 ^ 31 - 1 := by
  have ht := abs_tap_le (w0 := w0) hring (chorusOff s)
  rw [chorusRefOut]
  split
  · rw [asr_eq_div]
    exact abs_div_pow_le 1 ((abs_add_le _ _).trans (by omega))
  · exact hy

/-- R200: the tremolo gain lies in [1, 256]. -/
theorem tremoloGain_bounds (hd : 0 ≤ paramVal s .tremDepth ∧ paramVal s .tremDepth ≤ 256) :
    1 ≤ tremoloGain s ∧ tremoloGain s ≤ 256 := by
  obtain ⟨h0, h1⟩ := tri_bounds s.ph_t
  have hlo := Int.mul_nonneg hd.1 h0
  have hhi := Int.mul_le_mul hd.2 h1 h0 (by norm_num)
  rw [tremoloGain, asr_eq_div]
  omega

theorem abs_tremoloRefOut_le (hd : 0 ≤ paramVal s .tremDepth ∧ paramVal s .tremDepth ≤ 256) (hy : |y| ≤ 2 ^ 31 - 1) :
    |tremoloRefOut y s| ≤ 2 ^ 31 - 1 := by
  obtain ⟨hlo, hhi⟩ := tremoloGain_bounds hd
  rw [tremoloRefOut]
  split
  · rw [asr_eq_div]
    exact abs_div_pow_le 8 (abs_mul_le_of_abs_le hy (abs_le.2 ⟨by omega, hhi⟩))
  · exact hy

theorem chain_lp_b_of_ref (h : s.cfg.EFFECT_IMPL = .ref) : (chain y w0 sw s).2.lp_b =
    toReg 64 (nextLp (tremoloRefOut (chorusRefOut y w0 sw s) s) s) := by
  simp only [chain, chorus_of_ref, tremolo_of_ref, bass_of_ref, reverb_of_ref, h]
  rfl

/-- R202, R207: the reference bass-boost moves its low-pass state toward a bounded sample; a supplied set leaves it. -/
theorem abs_chain_lp_b_le (hring : ∀ i, |(Memory.read s.buf i).toInt| ≤ 2 ^ 31 - 1)
    (hd : 0 ≤ paramVal s .tremDepth ∧ paramVal s .tremDepth ≤ 256) (hlp : |s.lp_b.toInt| ≤ 2 ^ 31 - 1)
    (hy : |y| ≤ 2 ^ 31 - 1) : |(chain y w0 sw s).2.lp_b.toInt| ≤ 2 ^ 31 - 1 := by
  cases hi : s.cfg.EFFECT_IMPL with
  | supplied =>
    obtain ⟨-, -, h⟩ := chain_refStates_of_supplied y w0 sw hi
    rwa [h]
  | ref =>
    have hy3 := abs_tremoloRefOut_le hd (abs_chorusRefOut_le (w0 := w0) (sw := sw) hring hy)
    have hlp' := ema_between s.cfg.BB_SHIFT (abs_le.1 hlp) (abs_le.1 hy3)
    rw [chain_lp_b_of_ref hi, nextLp, asr_eq_div, toReg64_toInt (by omega) (by omega)]
    exact abs_le.2 hlp'

end

/-! ## The ring, the engines and the output after a tick -/

section
variable (raw : Int) {s : State}

theorem tickState_buf (hc : s.wr_cursor.toNat < s.cfg.BUF_N) :
    (tickState raw s).buf = Memory.write s.buf s.wr_cursor.toNat (toReg 32 (tickSample raw s)) := by
  obtain ⟨_, _, _, _, ht, -⟩ := tickState_eq raw s
  rw [ht, ringSlot_of_lt hc]

variable (s)

theorem tickState_wr_cursor_toNat : (tickState raw s).wr_cursor.toNat = (s.wr_cursor.toNat + 1) % s.cfg.BUF_N := by
  obtain ⟨_, _, _, _, ht, -⟩ := tickState_eq raw s
  have hN := s.cfg.BUF_N_le
  have hlt := Nat.mod_lt (s.wr_cursor.toNat + 1) s.cfg.BUF_N_pos
  rw [ht]
  exact toReg_natCast_toNat (by omega)

theorem tickState_samples_written_toNat :
    (tickState raw s).samples_written.toNat = min (s.samples_written.toNat + 1) s.cfg.BUF_N := by
  obtain ⟨_, _, _, _, ht, -⟩ := tickState_eq raw s
  have hN := s.cfg.BUF_N_le
  rw [ht]
  exact toReg_natCast_toNat (by omega)

theorem tickState_lp_b : (tickState raw s).lp_b = (tickChain raw s).2.lp_b := by
  obtain ⟨_, _, _, _, ht, -, -, hlp, -⟩ := tickState_eq raw s
  rw [ht, hlp]

/-- R135: a tick writes neither the parameters nor the quadrature state. -/
theorem tickState_keepsControl : KeepsParams s (tickState raw s) ∧ KeepsQuadrature s (tickState raw s) := by
  obtain ⟨_, _, _, _, ht, -⟩ := tickState_eq raw s
  rw [ht]
  exact ⟨⟨rfl, rfl, rfl⟩, rfl, rfl, rfl⟩

/-- R234: the output level is in the sink's range. -/
theorem tickState_out_level_le : (tickState raw s).out_level.toNat ≤ s.cfg.OUTPUT_SCALE := by
  obtain ⟨_, _, _, _, ht, -⟩ := tickState_eq raw s
  obtain ⟨hlo, hhi⟩ := clamp_mem (v := recentre s.cfg (hardClip s.cfg (tickChain raw s).1))
    (Int.natCast_nonneg s.cfg.OUTPUT_SCALE)
  have hS := s.cfg.OUTPUT_SCALE_le
  have hu := toReg_toNat (w := 32) hlo (by omega)
  rw [ht]
  change (toReg 32 (clamp _ _ _)).toNat ≤ _
  omega

end

section
variable {raw : Int} {s : State}

/-- R156: every entry stays a conditioned sample's value. -/
theorem abs_tickState_read_le (hr : InRawRange raw) (h : Inv s) (i : Nat) :
    |(Memory.read (tickState raw s).buf i).toInt| ≤ 2 ^ 31 - 1 := by
  have hsample := abs_tickSample_le hr h.hpf_bound
  obtain ⟨hlo, hhi⟩ := abs_le.1 hsample
  rw [tickState_buf raw h.cursor_lt, Memory.read_write h.ring_wf]
  split
  · rwa [toReg32_toInt (by omega) (by omega)]
  · exact h.ring_bound i

/-- R177: before the first wrap the cursor and the fill count advance together. -/
theorem tickState_warm (h : Inv s) (hlt : (tickState raw s).samples_written.toNat < s.cfg.BUF_N) :
    (tickState raw s).wr_cursor = (tickState raw s).samples_written := by
  rw [tickState_samples_written_toNat] at hlt
  rw [← BitVec.toNat_inj, tickState_wr_cursor_toNat, tickState_samples_written_toNat, h.warm (by omega),
    Nat.mod_eq_of_lt (by omega), Nat.min_eq_left (by omega)]

/-- R177: before the first wrap the slot written is the first of those not yet written. -/
theorem tickState_unwritten (h : Inv s) {i : Nat} (hlo : (tickState raw s).samples_written.toNat ≤ i)
    (hhi : i < s.cfg.BUF_N) : Memory.read (tickState raw s).buf i = 0 := by
  rw [tickState_samples_written_toNat] at hlo
  rw [tickState_buf raw h.cursor_lt, h.warm (by omega), Memory.read_write_ne _ (by omega)]
  exact h.unwritten i (by omega) hhi

theorem abs_tickState_lp_b_le (hr : InRawRange raw) (h : Inv s) : |(tickState raw s).lp_b.toInt| ≤ 2 ^ 31 - 1 := by
  obtain ⟨hmin, -, hmax⟩ := s.cfg.tremDepth_within
  obtain ⟨hlo, hhi⟩ := h.params .tremDepth
  rw [tickState_lp_b]
  exact abs_chain_lp_b_le (s := (conditioner raw (countTick s)).2) h.ring_bound ⟨hmin.trans hlo, hhi.trans hmax⟩
    h.lp_bound (abs_delayStage_le (s := (conditioner raw (countTick s)).2) h.ring_bound
      (abs_tickSample_le hr h.hpf_bound))

theorem inv_tickState (hr : InRawRange raw) (h : Inv s) : Inv (tickState raw s) := by
  obtain ⟨⟨hp, hci, hti⟩, -, hcw, hccw⟩ := tickState_keepsControl raw s
  have hcfg := tickState_cfg raw s
  have hN := s.cfg.two_le_BUF_N
  have hcnt := tickState_samples_written_toNat raw s
  have hval : ∀ p, paramVal (tickState raw s) p = paramVal s p := fun p => by rw [paramVal, hp, paramVal]
  constructor
  case ring_wf => rw [tickState_buf raw h.cursor_lt]; exact Memory.wf_write h.ring_wf _ _
  case ring_slots => rw [tickState_buf raw h.cursor_lt, hcfg]; exact Memory.slots_write h.ring_slots h.cursor_lt _
  case ring_bound => exact abs_tickState_read_le hr h
  case cursor_lt => rw [tickState_wr_cursor_toNat, hcfg]; exact Nat.mod_lt _ s.cfg.BUF_N_pos
  case count_le => rw [hcnt, hcfg]; exact Nat.min_le_right _ _
  case warm => rw [hcfg]; exact tickState_warm h
  case unwritten => rw [hcfg]; exact fun i => tickState_unwritten h
  case seeded =>
    refine iff_of_true (tickState_bias_seeded raw s) fun h0 => ?_
    rw [h0] at hcnt
    change 0 = _ at hcnt
    omega
  case hpf_bound => exact abs_tickState_hpf_lp_le hr h.hpf_bound
  case gain_ge => rw [hcfg]; exact tickState_gain_ge raw h.gain_ge
  case gain_le => exact tickState_gain_le raw s
  case lp_bound => exact abs_tickState_lp_b_le hr h
  case params => intro p; rw [hval, rangeOf, hcfg]; exact h.params p
  case chorus_inc => rw [hval, hci, hcfg]; exact h.chorus_inc
  case tremolo_inc => rw [hval, hti, hcfg]; exact h.tremolo_inc
  case out_le => rw [hcfg]; exact tickState_out_level_le raw s
  case no_rotation => rw [hcw, hccw]; exact h.no_rotation

end

/-! ## The parameters and the encoder -/

theorem inv_paramWrite (p : Param) (v : Int) {s : State} (h : Inv s) : Inv (paramWrite p v s) := by
  have hother : ∀ q, q ≠ p → paramVal (paramWrite p v s) q = paramVal s q := fun q hq => by
    rw [paramVal_paramWrite, if_neg hq]
  have hparams : ∀ q, (rangeOf s q).MIN ≤ paramVal (paramWrite p v s) q ∧
      paramVal (paramWrite p v s) q ≤ (rangeOf s q).MAX := fun q => by
    rw [paramVal_paramWrite]
    split
    · next hq =>
      have := rangeOf_bounds s q
      subst hq
      omega
    · exact h.params q
  have hci : (paramWrite p v s).ch_inc = inc s.cfg.RATE_DIV (paramVal (paramWrite p v s) .chorusRate) := by
    by_cases hp : p = .chorusRate
    · rw [hp]; rfl
    · rw [hother _ (Ne.symm hp), ← h.chorus_inc, paramWrite_eq, if_neg hp]
  have hti : (paramWrite p v s).trem_inc = inc s.cfg.RATE_DIV (paramVal (paramWrite p v s) .tremRate) := by
    by_cases hp : p = .tremRate
    · rw [hp]; rfl
    · rw [hother _ (Ne.symm hp), ← h.tremolo_inc, paramWrite_eq, if_neg hp]
  rw [paramWrite_eq] at hparams hci hti ⊢
  exact { h with params := hparams, chorus_inc := hci, tremolo_inc := hti }

theorem inv_rotDispatch (dir : Int) {s : State} (h : Inv s) : Inv (rotDispatch dir s) := by
  rcases rotDispatch_cases dir s with ⟨-, he⟩ | ⟨e, -, he⟩
  · rwa [he]
  · rw [he]; exact inv_paramWrite _ _ h

/-- A rotation neither reads nor writes the quadrature state, so it may run before the reading is latched (R258). -/
theorem clearRotation_rotDispatch_latchRotation (dir : Int) (ab : BitVec 2) (s : State) :
    clearRotation (rotDispatch dir (latchRotation ab s)) =
      { rotDispatch dir s with enc_prev := ab, cw_seen := false, ccw_seen := false } := by
  unfold rotDispatch
  rw [latchRotation_en]
  cases priorityEffect s.en with
  | none => rfl
  | some e => cases e <;> rfl

theorem inv_at_rest (ab : BitVec 2) {s : State} (h : Inv s) :
    Inv { s with enc_prev := ab, cw_seen := false, ccw_seen := false } := { h with no_rotation := ⟨rfl, rfl⟩ }

theorem inv_encState (ab : BitVec 2) {s : State} (h : Inv s) : Inv (encState ab s) := by
  obtain ⟨hcw, hccw⟩ := h.no_rotation
  rcases encState_cases ab hcw hccw with ⟨-, he⟩ | ⟨-, he⟩ | ⟨-, -, he⟩
  · rw [he, clearRotation_rotDispatch_latchRotation]; exact inv_at_rest ab (inv_rotDispatch 1 h)
  · rw [he, clearRotation_rotDispatch_latchRotation]; exact inv_at_rest ab (inv_rotDispatch (-1) h)
  · rw [he]; exact inv_at_rest ab h

/-! ## Events and steps -/

theorem inv_btnState (lv : BitVec 6) {s : State} (h : Inv s) : Inv (btnState lv s) := by
  obtain ⟨_, _, _, _, he⟩ := btnState_state lv s
  rw [he]
  exact { h with }

/-- Every event keeps the invariant. -/
theorem inv_execState {i : Instr} {s : State} (hw : i.wf = true) (h : Inv s) : Inv (execState i s) := by
  cases i with
  | tick raw => exact inv_tickState (of_decide_eq_true hw) h
  | enc ab => exact inv_encState ab h
  | btn lv => exact inv_btnState lv h
  | setp p v => exact inv_paramWrite p v h
  | seten _ _ | geten _ | getp _ | rdst _ => exact { h with }

theorem paramVal_resetWith (c : LegalConfig) (p : Param) :
    paramVal (State.resetWith c) p = (rangeOf (State.resetWith c) p).INIT := by
  have hb := rangeOf_bounds (State.resetWith c) p
  have hreg : getParam (State.resetWith c).param p = toReg 32 (rangeOf (State.resetWith c) p).INIT := by cases p <;> rfl
  rw [paramVal, hreg, toReg32_toInt (by omega) (by omega)]

/-- The state right after reset meets the invariant (R310). -/
theorem inv_resetWith (c : LegalConfig) : Inv (State.resetWith c) where
  ring_wf := ⟨.nil, nofun⟩
  ring_slots := nofun
  ring_bound _ := by change |(0 : Sample).toInt| ≤ _; decide
  cursor_lt := c.BUF_N_pos
  count_le := Nat.zero_le _
  warm _ := rfl
  unwritten _ _ _ := rfl
  seeded := iff_of_false Bool.false_ne_true (not_not_intro rfl)
  hpf_bound := by change |(0 : BitVec 64).toInt| ≤ _; decide
  gain_ge := c.AGC_MIN_GAIN_le
  gain_le := le_refl 256
  lp_bound := by change |(0 : BitVec 64).toInt| ≤ _; decide
  params p := by
    obtain ⟨-, hlo, hhi, -⟩ := rangeOf_bounds (State.resetWith c) p
    rw [paramVal_resetWith]
    exact ⟨hlo, hhi⟩
  chorus_inc := by rw [paramVal_resetWith]; rfl
  tremolo_inc := by rw [paramVal_resetWith]; rfl
  out_le := by
    change (BitVec.ofNat 32 (c.OUTPUT_SCALE >>> 1)).toNat ≤ _
    rw [BitVec.toNat_ofNat]
    exact (Nat.mod_le _ _).trans (Nat.shiftRight_le _ _)
  no_rotation := ⟨rfl, rfl⟩

theorem inv_setReset (asserted : Bool) {s : State} (h : Inv s) : Inv (setReset asserted s) := by
  cases asserted with
  | true => exact { inv_resetWith s.cfg with }
  | false => exact { h with }

/-- Settles O60: of all that a step can do (`step_cases`), only a reset and an event write what the invariant reads, and an
event word carries operands of its field only. -/
theorem everyStepKeepsTheInvariant : Obligations.EveryStepKeepsTheInvariant := by
  intro s t h ht
  have hc : ∀ rest, Inv (consume rest s) := fun _ => { h with }
  rcases step_cases s with ⟨-, hs⟩ | ⟨b, rest, -, hs⟩ | ⟨-, rest, -, -, hs⟩ | ⟨W, rest, i, -, -, hd, hs⟩ |
    ⟨-, rest, -, -, -, -, hs⟩ <;> obtain rfl := Host.Outcome.next.inj (hs.symm.trans ht)
  · exact h
  · exact inv_setReset b (hc rest)
  · exact hc rest
  · obtain ⟨j, -, rfl⟩ := decode_eq_event hd
    exact inv_execState (j.withData_wf W.data) (hc rest)
  · exact { h with }

end Sys2Proof.Machine
end

section
/-! PROOFS. No step writes the configuration (spec/00_scope.md R8; spec/10_state.md R52; spec/70_reset_and_hazards.md
R312). -/

namespace Sys2Proof.Machine

@[simp] theorem execState_cfg (i : Instr) (s : State) : (execState i s).cfg = s.cfg := by
  obtain ⟨-, -, -, -, -, -, -, -, hcfg, -⟩ := fieldsAreWrittenByTheirOwnersOnly i s _ (exec_eq i s)
  exact hcfg

@[simp] theorem setReset_cfg (asserted : Bool) (s : State) : (setReset asserted s).cfg = s.cfg := by
  cases asserted <;> rfl

/-- Settles O15: of all that a step can do (`step_cases`), a reset builds the fields again from the same configuration,
and an event keeps it. -/
theorem noStepWritesTheConfiguration : Obligations.NoStepWritesTheConfiguration := by
  refine ⟨Config.implementation_sourceFixed, fun s t ht => ?_⟩
  rcases step_cases s with ⟨-, hs⟩ | ⟨b, rest, -, hs⟩ | ⟨-, rest, -, -, hs⟩ | ⟨-, rest, i, -, -, -, hs⟩ |
    ⟨-, rest, -, -, -, -, hs⟩ <;> obtain rfl := Host.Outcome.next.inj (hs.symm.trans ht)
  · rfl
  · exact setReset_cfg b (consume rest s)
  · exact consume_cfg rest s
  · exact execState_cfg i (consume rest s)
  · exact (markRefused_cfg _).trans (consume_cfg rest s)

end Sys2Proof.Machine
end

section
/-! PROOFS. The delay ring and the delay stage (spec/42_delay.md R170 to R177; spec/20_memory.md R82, R86). -/

namespace Sys2Proof.Machine

/-! ## The slot behind the cursor (R170) -/

/-- Settles O26: `rslot_eq` on each side of the wrap. -/
theorem readSlotIsNeverTheWrittenSlot : Obligations.ReadSlotIsNeverTheWrittenSlot := by
  intro N w0 d hw h1 hd
  rw [rslot_eq hw h1 hd]
  split
  · next h => exact ⟨by omega, by omega, by rw [Nat.sub_add_cancel h, Nat.mod_eq_of_lt hw]⟩
  · exact ⟨by omega, by omega, by rw [Nat.sub_add_cancel (by omega), Nat.add_mod_right, Nat.mod_eq_of_lt hw]⟩

@[simp] theorem rslot_zero {N w0 : Nat} (hw : w0 < N) : rslot N w0 0 = w0 := by
  rw [rslot, sub_zero, Int.add_emod_right, Int.emod_eq_of_lt (by omega) (by omega), Int.toNat_natCast]

/-- When the cursor advances, every slot is one sample further behind it. -/
theorem rslot_succ (N w0 : Nat) (d : Int) : rslot N ((w0 + 1) % N) (d + 1) = rslot N w0 d := by
  have hmod : (((w0 + 1) % N : Nat) : Int) - (d + 1) + N ≡ w0 + 1 - (d + 1) + N [ZMOD N] := by
    push_cast
    exact ((Int.mod_modEq _ _).sub_right _).add_right _
  rw [rslot, hmod.eq, add_sub_add_right_eq_sub, rslot]

/-- Settles O28: until the fill count reaches N the cursor is the fill count, so the slot `d` behind it is a lower one;
after that every slot of the ring is a written one. -/
theorem guardKeepsStaleSlotsUnread : Obligations.GuardKeepsStaleSlotsUnread := by
  intro s d h h1 hd hsw
  refine ⟨?_, h.unwritten⟩
  rcases lt_or_ge s.samples_written.toNat s.cfg.BUF_N with hlt | hge
  · rw [rslot_eq h.cursor_lt h1 hd, h.warm hlt, if_pos (by omega)]
    omega
  · exact (rslot_lt s.cfg.BUF_N_pos _ _).trans_le hge

/-! ## The delay stage (R171 to R173) -/

section
variable {s : State} {c : Int} {w0 sw : Nat}

theorem delayStage_of_disabled (h : s.en.delay = false) : delayStage c w0 sw s = c :=
  if_neg fun ⟨hen, _⟩ => Bool.false_ne_true (h.symm.trans hen)

theorem delayStage_of_cold (h : (sw : Int) ≤ paramVal s .delayLen) : delayStage c w0 sw s = c :=
  if_neg fun ⟨_, hsw⟩ => not_le_of_gt hsw h

theorem delayStage_of_warm (hen : s.en.delay = true) (hsw : (sw : Int) > paramVal s .delayLen) :
    delayStage c w0 sw s =
      (c * s.cfg.DRY_WEIGHT + tap s w0 (paramVal s .delayLen) * s.cfg.WET_WEIGHT) / 2 ^ 8 := by
  rw [delayStage, if_pos ⟨hen, hsw⟩, delayMix, asr_eq_div]

end

/-- Settles O27: the stage's three cases, with the slot of the delayed sample from `rslot_eq`. -/
theorem delayStageMixesOnlyWhenWarm : Obligations.DelayStageMixesOnlyWhenWarm := by
  intro c w0 sw s len hlen h1 hN hw
  refine ⟨delayStage_of_disabled, fun hsw => delayStage_of_cold (by omega), fun hen hsw => ?_⟩
  rw [delayStage_of_warm hen (by omega), hlen, tap_eq, rslot_eq hw h1 hN]

/-! ## The ring after a tick (R174) -/

section
variable {raw : Int} {s : State}

/-- The slot at the cursor takes the conditioned sample whole. -/
theorem tickState_read_cursor (hr : InRawRange raw) (hhpf : |s.hpf_lp.toInt| ≤ 2 ^ 32 - 1)
    (hc : s.wr_cursor.toNat < s.cfg.BUF_N) (hwf : Memory.wf s.buf) :
    (Memory.read (tickState raw s).buf s.wr_cursor.toNat).toInt = conditionedSample (tickState raw s) raw := by
  obtain ⟨hlo, hhi⟩ := abs_le.1 (abs_tickSample_le hr hhpf)
  rw [tickState_buf raw hc, Memory.read_write hwf, if_pos rfl, toReg32_toInt (by omega) hhi, tickSample_eq]

theorem tickState_read_ne (hc : s.wr_cursor.toNat < s.cfg.BUF_N) {i : Nat} (hi : i ≠ s.wr_cursor.toNat) :
    Memory.read (tickState raw s).buf i = Memory.read s.buf i := by
  rw [tickState_buf raw hc, Memory.read_write_ne _ hi]

end

/-- Settles O25: the ring by `tickState_read_cursor` and `tickState_read_ne`, the cursor and the fill count by their own
lemmas. -/
theorem tickWritesTheConditionedSample : Obligations.TickWritesTheConditionedSample := fun raw s hr hhpf hc hwf =>
  ⟨tickState raw s, rfl, tickState_read_cursor hr hhpf hc hwf, fun _ => tickState_read_ne hc,
    tickState_wr_cursor_toNat raw s, tickState_samples_written_toNat raw s⟩

/-! ## The history the ring holds (R175) -/

section
variable {raw : Int} {s t : State} {h : List Int}

/-- One behind the new cursor is the slot the tick wrote. -/
theorem tap_tickState_one (hr : InRawRange raw) (hs : Inv s) :
    tap (tickState raw s) (tickState raw s).wr_cursor.toNat 1 = conditionedSample (tickState raw s) raw := by
  have hslot := rslot_succ s.cfg.BUF_N s.wr_cursor.toNat 0
  rw [zero_add, rslot_zero hs.cursor_lt] at hslot
  rw [tap_eq, tickState_wr_cursor_toNat, tickState_cfg, hslot]
  exact tickState_read_cursor hr hs.hpf_bound hs.cursor_lt hs.ring_wf

/-- Every other entry is one further behind, and the tick did not write it. -/
theorem tap_tickState_succ (hs : Inv s) {d : Nat} (h1 : 1 ≤ d) (hd : d ≤ s.cfg.BUF_N - 1) :
    tap (tickState raw s) (tickState raw s).wr_cursor.toNat (d + 1 : Nat) = tap s s.wr_cursor.toNat d := by
  obtain ⟨-, hne, -⟩ := readSlotIsNeverTheWrittenSlot _ _ d hs.cursor_lt h1 hd
  rw [tap_eq, tap_eq, tickState_wr_cursor_toNat, tickState_cfg, Nat.cast_succ, rslot_succ,
    tickState_read_ne hs.cursor_lt hne]

theorem ringHolds_tickState (hr : InRawRange raw) (hs : Inv s) (hh : RingHolds h s) :
    RingHolds (conditionedSample (tickState raw s) raw :: h) (tickState raw s) where
  cursor := by rw [tickState_wr_cursor_toNat, tickState_cfg, hh.cursor, Nat.mod_add_mod, List.length_cons]
  count := by
    rw [tickState_samples_written_toNat, tickState_cfg, hh.count, List.length_cons]
    omega
  taps d h1 hN hd := by
    rw [tickState_cfg] at hN
    rw [List.length_cons] at hd
    match d with
    | 0 => exact absurd h1 (by decide)
    | 1 => exact congrArg some (tap_tickState_one hr hs).symm
    | e + 2 =>
      have hold := hh.taps (e + 1) (by omega) (by omega) (by omega)
      rw [tap_tickState_succ hs (by omega) (by omega), ← hold]
      rfl

theorem ringHolds_of_keepsRing (hh : RingHolds h s) (hring : KeepsRing s t) (hcfg : t.cfg = s.cfg) :
    RingHolds h t := by
  obtain ⟨hread, hc, hsw⟩ := hring
  refine ⟨by rw [hc, hcfg, hh.cursor], by rw [hsw, hcfg, hh.count], fun d h1 hN hd => ?_⟩
  rw [hcfg] at hN
  rw [hh.taps d h1 hN hd, tap_eq, tap_eq, hread, hc, hcfg]

theorem ringHolds_nil (hc : s.wr_cursor = 0) (hsw : s.samples_written = 0) : RingHolds [] s where
  cursor := by rw [hc]; exact (Nat.zero_mod _).symm
  count := by rw [hsw]; exact (Nat.zero_min _).symm
  taps _ h1 _ hd := absurd (h1.trans hd) (by decide)

end

/-- Only a tick writes the ring, the cursor and the fill count (R86). -/
theorem tick_or_keepsRing (i : Instr) (s : State) : (∃ raw, i = .tick raw) ∨ KeepsRing s (execState i s) :=
  (fieldsAreWrittenByTheirOwnersOnly i s _ (exec_eq i s)).1.imp_right fun ⟨_, hring, _⟩ => hring

/-- Settles O29: `ringHolds_tickState` for a tick, and no other event writes the ring. -/
theorem eachTickExtendsTheHistory : Obligations.EachTickExtendsTheHistory := by
  intro i s t h hw hs hh ht
  obtain rfl := exec_next.1 ht
  refine ⟨?_, fun hne => ?_⟩
  · rintro raw rfl
    exact ringHolds_tickState (of_decide_eq_true hw) hs hh
  · rcases tick_or_keepsRing i s with ⟨raw, hi⟩ | hring
    · exact absurd hi (hne raw)
    · exact ringHolds_of_keepsRing hh hring (execState_cfg i s)

theorem conditionedRun_tick (raw : Int) (is : List Instr) (s : State) (h : List Int) :
    conditionedRun (.tick raw :: is) s h =
      conditionedRun is (tickState raw s) (conditionedSample (tickState raw s) raw :: h) := rfl

theorem conditionedRun_of_not_tick {i : Instr} (hi : ∀ raw, i ≠ .tick raw) (is : List Instr) (s : State)
    (h : List Int) : conditionedRun (i :: is) s h = conditionedRun is (execState i s) h := by
  cases i with
  | tick raw => exact absurd rfl (hi raw)
  | _ => rfl

/-- Along a run the ring holds the samples conditioned so far. -/
theorem ringHolds_runEvents {is : List Instr} {s t : State} {h : List Int} (hw : ∀ i ∈ is, i.wf = true) (hs : Inv s)
    (hh : RingHolds h s) (ht : runEvents is s = .next t) : RingHolds (conditionedRun is s h) t := by
  induction is generalizing s h with
  | nil =>
    obtain rfl := Host.Outcome.next.inj ht
    exact hh
  | cons i is ih =>
    obtain ⟨hwi, hwis⟩ := List.forall_mem_cons.1 hw
    obtain ⟨htick, hother⟩ := eachTickExtendsTheHistory i s _ h hwi hs hh (exec_eq i s)
    have hs' := inv_execState hwi hs
    rw [runEvents_cons] at ht
    by_cases hi : ∃ raw, i = .tick raw
    · obtain ⟨raw, rfl⟩ := hi
      exact ih hwis hs' (htick raw rfl) ht
    · have hi' := not_exists.1 hi
      rw [conditionedRun_of_not_tick hi']
      exact ih hwis hs' (hother hi') ht

/-- Settles O30: `ringHolds_runEvents` from reset, where the invariant holds and the ring holds the empty history. -/
theorem delayIsExact : Obligations.DelayIsExact := fun c _ _ hw ht =>
  ringHolds_runEvents hw (inv_resetWith c) (ringHolds_nil rfl rfl) ht

end Sys2Proof.Machine
end

section
/-! PROOFS. The reference engines' oscillators: the triangle of a phase and the phase increment (spec/43_effects.md
R196, R197). -/

namespace Sys2Proof.Machine

/-- R196: `t = ph[31:16]` is a quotient, and `t < 32768` a bound on the phase. -/
theorem tri_eq (ph : BitVec 32) : tri ph =
    if ph.toNat < 2 ^ 31 then ((ph.toNat / 2 ^ 16 : Nat) : Int) else 65535 - (ph.toNat / 2 ^ 16 : Nat) := by
  have ht : (ph.extractLsb' 16 16).toNat = ph.toNat / 2 ^ 16 := by
    rw [BitVec.extractLsb'_toNat, Nat.shiftRight_eq_div_pow, Nat.mod_eq_of_lt (by omega)]
  have hsplit : ph.toNat / 2 ^ 16 < 32768 ↔ ph.toNat < 2 ^ 31 := by omega
  simp only [tri, ht, hsplit]

/-- Settles O32: `tri_bounds`, and the two branches of `tri_eq`. -/
theorem triangleOfThePhase : Obligations.TriangleOfThePhase := by
  intro ph
  obtain ⟨hlo, hhi⟩ := tri_bounds ph
  refine ⟨hlo, hhi, fun h => ?_, fun h => ?_⟩
  · rw [tri_eq, if_pos h]
  · rw [tri_eq, if_neg (not_lt.2 h)]

/-- R197: for a rate below the divisor the quotient fits its register. -/
theorem inc_toNat {DIV : Nat} {rate : Int} (h0 : 0 ≤ rate) (h : rate ≤ DIV - 1) :
    ((inc DIV rate).toNat : Int) = rate * 2 ^ 32 / DIV := by
  refine toReg_toNat (Int.ediv_nonneg (by omega) (by omega)) (Int.ediv_lt_of_lt_mul (by omega) ?_)
  omega

/-- Settles O33: the register holds the quotient (`inc_toNat`), and a floor lies between the quotient's neighbours. -/
theorem incrementIsTheFloorOfTheQuotient : Obligations.IncrementIsTheFloorOfTheQuotient := by
  intro DIV rate h1 _ h0 h
  rw [inc_toNat h0 h]
  exact ⟨Int.ediv_mul_le _ (by omega), Int.lt_ediv_add_one_mul_self _ (by omega)⟩

end Sys2Proof.Machine
end

section
/-! PROOFS. The reference engines one by one (spec/43_effects.md R198 to R204), and their bounds (R207). -/

namespace Sys2Proof.Machine

section
variable {s : State} {y : Int} {w0 sw : Nat}

/-! ## Chorus (R198) -/

theorem chorusRefOut_of_off (h : s.en.chorus = false ∨ (sw : Int) ≤ chorusOff s) : chorusRefOut y w0 sw s = y :=
  if_neg fun ⟨hen, hsw⟩ => h.elim (fun h => Bool.false_ne_true (h.symm.trans hen)) (not_le_of_gt hsw)

theorem chorusRefOut_of_on (hen : s.en.chorus = true) (hsw : (sw : Int) > chorusOff s) :
    chorusRefOut y w0 sw s = (y + tap s w0 (chorusOff s)) / 2 := by
  rw [chorusRefOut, if_pos ⟨hen, hsw⟩, asr_eq_div, pow_one]

theorem chorusOff_eq (s : State) :
    chorusOff s = paramVal s .chorusLen + tri s.ph_c * s.cfg.CH_SWING / 2 ^ 15 := by
  rw [chorusOff, asr_eq_div]

/-- The triangle is below 2^15, so the swing stays below CH_SWING. -/
theorem chorusSwing_bounds (ph : BitVec 32) (swing : Nat) :
    0 ≤ tri ph * swing / 2 ^ 15 ∧ tri ph * swing / 2 ^ 15 ≤ max 0 (swing - 1) := by
  obtain ⟨h0, h1⟩ := tri_bounds ph
  have hlo : 0 ≤ tri ph * swing := by positivity
  have hhi : tri ph * swing ≤ 32767 * swing := Int.mul_le_mul_of_nonneg_right h1 (by omega)
  omega

/-! ## Tremolo (R200, R201) -/

theorem tremoloRefOut_of_disabled (h : s.en.tremolo = false) : tremoloRefOut y s = y :=
  if_neg fun hen => Bool.false_ne_true (h.symm.trans hen)

theorem tremoloRefOut_of_enabled (h : s.en.tremolo = true) : tremoloRefOut y s = y * tremoloGain s / 2 ^ 8 := by
  rw [tremoloRefOut, if_pos h, asr_eq_div]

theorem tremoloGain_eq (s : State) :
    tremoloGain s = 256 - paramVal s .tremDepth * tri s.ph_t / 2 ^ 15 := by
  rw [tremoloGain, asr_eq_div]

/-- R200: the triangle is below 2^15, so a depth of at least 1 takes less than itself from 256. -/
theorem tremoloGain_ge (h : 1 ≤ paramVal s .tremDepth) : 257 - paramVal s .tremDepth ≤ tremoloGain s := by
  have hhi := Int.mul_le_mul_of_nonneg_left (tri_bounds s.ph_t).2 (show 0 ≤ paramVal s .tremDepth by omega)
  rw [tremoloGain_eq]
  omega

/-- R201: a gain in [1, 256] does not move a sample past 0 or away from it. -/
theorem tremoloRefOut_between (hd : 0 ≤ paramVal s .tremDepth ∧ paramVal s .tremDepth ≤ 256) :
    (0 ≤ y → 0 ≤ tremoloRefOut y s ∧ tremoloRefOut y s ≤ y) ∧
    (y < 0 → y ≤ tremoloRefOut y s ∧ tremoloRefOut y s ≤ 0) := by
  cases hen : s.en.tremolo with
  | false => rw [tremoloRefOut_of_disabled hen]; omega
  | true =>
    obtain ⟨hlo, hhi⟩ := tremoloGain_bounds hd
    obtain ⟨g, hg⟩ := Int.eq_ofNat_of_zero_le (show 0 ≤ tremoloGain s by omega)
    rw [tremoloRefOut_of_enabled hen, hg]
    exact ⟨fun h => scaled_nonneg h (by omega), fun h => scaled_neg h (by omega)⟩

/-! ## Bass-boost (R202) -/

theorem bassRefOut_of_disabled (h : s.en.bass = false) : bassRefOut y s = y :=
  if_neg fun hen => Bool.false_ne_true (h.symm.trans hen)

theorem bassRefOut_of_enabled (h : s.en.bass = true) :
    bassRefOut y s = y + s.lp_b.toInt * paramVal s .bassGain / 2 ^ 8 := by
  rw [bassRefOut, if_pos h, asr_eq_div]

theorem bassRefOut_of_gain_zero (h : paramVal s .bassGain = 0) : bassRefOut y s = y := by
  cases hen : s.en.bass with
  | false => exact bassRefOut_of_disabled hen
  | true => rw [bassRefOut_of_enabled hen, h, mul_zero, Int.zero_ediv, add_zero]

/-- The 64-bit register holds the exact low-pass state, in every state: it moves toward an input of the register's
range. -/
theorem toReg_nextLp_toInt (hlo : -2 ^ 63 ≤ y) (hhi : y ≤ 2 ^ 63 - 1) :
    (toReg 64 (nextLp y s)).toInt = s.lp_b.toInt + (y - s.lp_b.toInt) / 2 ^ s.cfg.BB_SHIFT := by
  have h1 := s.lp_b.le_toInt
  have h2 := s.lp_b.toInt_lt
  obtain ⟨hl, hh⟩ := ema_between (lo := -2 ^ 63) (hi := 2 ^ 63 - 1) s.cfg.BB_SHIFT (a := s.lp_b.toInt) ⟨h1, by omega⟩
    ⟨hlo, hhi⟩
  rw [nextLp, asr_eq_div, toReg64_toInt hl hh]

/-! ## Reverb (R204) -/

theorem reverbRefOut_of_off (h : s.en.reverb = false ∨ sw ≤ s.cfg.RV_D2) : reverbRefOut y w0 sw s = y :=
  if_neg fun ⟨hen, hsw⟩ => h.elim (fun h => Bool.false_ne_true (h.symm.trans hen)) (not_le_of_gt hsw)

theorem reverbTap_eq (w0 : Nat) (s : State) :
    reverbTap w0 s = (tap s w0 s.cfg.RV_D1 + tap s w0 s.cfg.RV_D2) / 2 := by
  rw [reverbTap, asr_eq_div, pow_one]

theorem reverbRefOut_of_on (hen : s.en.reverb = true) (hsw : sw > s.cfg.RV_D2) : reverbRefOut y w0 sw s =
    (y * (256 - paramVal s .revMix) + reverbTap w0 s * paramVal s .revMix) / 2 ^ 8 := by
  rw [reverbRefOut, if_pos ⟨hen, hsw⟩, asr_eq_div]

/-! ## The bounds of the chain (R207) -/

theorem abs_nextLp_le (hlp : |s.lp_b.toInt| ≤ 2 ^ 31 - 1) (hy : |y| ≤ 2 ^ 31 - 1) : |nextLp y s| ≤ 2 ^ 31 - 1 := by
  rw [nextLp, asr_eq_div]
  exact abs_le.2 (ema_between _ (abs_le.1 hlp) (abs_le.1 hy))

theorem abs_lp_mul_bassGain_le (hlp : |s.lp_b.toInt| ≤ 2 ^ 31 - 1) (hg : |paramVal s .bassGain| ≤ 65536) :
    |s.lp_b.toInt * paramVal s .bassGain| ≤ (2 ^ 31 - 1) * 65536 := abs_mul_le_of_abs_le hlp hg

/-- R207: the boost adds at most 256 times the low-pass state. -/
theorem abs_bassRefOut_le (hlp : |s.lp_b.toInt| ≤ 2 ^ 31 - 1) (hg : |paramVal s .bassGain| ≤ 65536)
    (hy : |y| ≤ 2 ^ 31 - 1) : |bassRefOut y s| ≤ 257 * (2 ^ 31 - 1) := by
  cases hen : s.en.bass with
  | false => rw [bassRefOut_of_disabled hen]; omega
  | true =>
    have hboost := abs_div_pow_le (b := 256 * (2 ^ 31 - 1)) 8
      ((abs_lp_mul_bassGain_le hlp hg).trans (by norm_num))
    rw [bassRefOut_of_enabled hen]
    exact (abs_add_le _ _).trans (by omega)

theorem abs_reverbTap_le (hring : ∀ i, |(Memory.read s.buf i).toInt| ≤ 2 ^ 31 - 1) :
    |reverbTap w0 s| ≤ 2 ^ 31 - 1 := by
  have h1 := abs_tap_le (w0 := w0) hring s.cfg.RV_D1
  have h2 := abs_tap_le (w0 := w0) hring s.cfg.RV_D2
  rw [reverbTap, asr_eq_div]
  exact abs_div_pow_le 1 ((abs_add_le _ _).trans (by omega))

/-- A mix by two weights that add up to 256 keeps a bound of both its inputs. -/
theorem abs_mix_le {a b m bound : Int} (hm : 0 ≤ m ∧ m ≤ 256) (ha : |a| ≤ bound) (hb : |b| ≤ bound) :
    |(a * (256 - m) + b * m) / 2 ^ 8| ≤ bound := by
  have h1 := abs_mul_le_of_abs_le ha (abs_of_nonneg (show 0 ≤ 256 - m by omega)).le
  have h2 := abs_mul_le_of_abs_le hb (abs_of_nonneg hm.1).le
  refine abs_div_pow_le 8 ((abs_add_le _ _).trans ((add_le_add h1 h2).trans_eq ?_))
  ring

theorem abs_reverbRefOut_le (hring : ∀ i, |(Memory.read s.buf i).toInt| ≤ 2 ^ 31 - 1)
    (hm : 0 ≤ paramVal s .revMix ∧ paramVal s .revMix ≤ 256) (hy : |y| ≤ 257 * (2 ^ 31 - 1)) :
    |reverbRefOut y w0 sw s| ≤ 257 * (2 ^ 31 - 1) := by
  by_cases h : s.en.reverb = true ∧ sw > s.cfg.RV_D2
  · rw [reverbRefOut_of_on h.1 h.2]
    exact abs_mix_le hm hy ((abs_reverbTap_le hring).trans (by norm_num))
  · rw [reverbRefOut, if_neg h]
    exact hy

/-- The invariant's ranges of the three parameters that scale a sample, as R9 bounds them. -/
theorem Inv.scalingParams_bounds (h : Inv s) : (0 ≤ paramVal s .tremDepth ∧ paramVal s .tremDepth ≤ 256) ∧
    (0 ≤ paramVal s .bassGain ∧ paramVal s .bassGain ≤ 65536) ∧
    (0 ≤ paramVal s .revMix ∧ paramVal s .revMix ≤ 256) := by
  obtain ⟨htd, -, htd'⟩ := s.cfg.tremDepth_within
  obtain ⟨hbg, -, hbg'⟩ := s.cfg.bassGain_within
  obtain ⟨hrm, -, hrm'⟩ := s.cfg.revMix_within
  obtain ⟨h1, h1'⟩ := h.params .tremDepth
  obtain ⟨h2, h2'⟩ := h.params .bassGain
  obtain ⟨h3, h3'⟩ := h.params .revMix
  exact ⟨⟨htd.trans h1, h1'.trans htd'⟩, ⟨hbg.trans h2, h2'.trans hbg'⟩, ⟨hrm.trans h3, h3'.trans hrm'⟩⟩

end

/-! ## The engines and their bounds -/

/-- Settles O37: the range of the tap distance from `chorusSwing_bounds` and R9, the output's branches, and the phase. -/
theorem chorusEngine : Obligations.ChorusEngine := by
  intro y1 w0 sw s href hmin hmax off
  have hoff : chorusOff s = off := chorusOff_eq s
  obtain ⟨hlo, hhi⟩ := chorusSwing_bounds s.ph_c s.cfg.CH_SWING
  obtain ⟨hlen, hN⟩ := s.cfg.chorusLen_within
  have hrange : paramVal s .chorusLen ≤ off ∧ off ≤ paramVal s .chorusLen + max 0 (s.cfg.CH_SWING - 1) := by omega
  rw [chorus_of_ref y1 w0 sw href, ← hoff, ← BitVec.add_def]
  rw [← hoff] at hrange
  exact ⟨by omega, by omega, by omega, by omega, by omega, chorusRefOut_of_on, chorusRefOut_of_off, rfl⟩

/-- Settles O38: the bounds of the gain, the output's branches, `tremoloRefOut_between`, and the phase. -/
theorem tremoloEngine : Obligations.TremoloEngine := by
  intro y2 w0 sw s href h0 h256 g
  have hg : tremoloGain s = g := tremoloGain_eq s
  obtain ⟨hpos, hneg⟩ := tremoloRefOut_between (y := y2) ⟨h0, h256⟩
  rw [tremolo_of_ref y2 w0 sw href, ← hg, ← BitVec.add_def]
  refine ⟨tremoloGain_ge, (tremoloGain_bounds ⟨h0, h256⟩).2, fun h => ?_, tremoloRefOut_of_enabled,
    tremoloRefOut_of_disabled, hpos, hneg, rfl⟩
  rw [tremoloGain_eq, h, zero_mul, Int.zero_ediv, sub_zero]

/-- Settles O39: `toReg_nextLp_toInt`, and the output's branches in the state just written. -/
theorem bassBoostEngine : Obligations.BassBoostEngine := by
  intro y3 w0 sw s href hy lp
  obtain ⟨hlo, hhi⟩ := abs_le.1 hy
  have hlp : (toReg 64 (nextLp y3 s)).toInt = lp := toReg_nextLp_toInt (by omega) (by omega)
  rw [bass_of_ref y3 w0 sw href]
  refine ⟨hlp, rfl, fun h => ?_, fun h => bassRefOut_of_disabled h, fun h => bassRefOut_of_gain_zero h⟩
  rw [← hlp]
  exact bassRefOut_of_enabled h

/-- Settles O40: the output's two branches, and the mix at the two ends of REV_MIX. -/
theorem reverbEngine : Obligations.ReverbEngine := by
  intro y4 w0 sw s href t
  have ht : reverbTap w0 s = t := reverbTap_eq w0 s
  rw [reverb_of_ref y4 w0 sw href, ← ht]
  refine ⟨rfl, reverbRefOut_of_off, fun hen hsw => ⟨reverbRefOut_of_on hen hsw, fun h => ?_, fun h => ?_⟩⟩
  · rw [reverbRefOut_of_on hen hsw, h]
    omega
  · rw [reverbRefOut_of_on hen hsw, h]
    omega

/-- Settles O41: the bound of each stage, from the invariant's bounds on the ring, the low-pass state and the
parameters. -/
theorem referenceChainBounds : Obligations.ReferenceChainBounds := by
  intro y w0 sw s h
  obtain ⟨hdepth, ⟨hg0, hg1⟩, hmix⟩ := h.scalingParams_bounds
  have hgain : |paramVal s .bassGain| ≤ 65536 := abs_le.2 ⟨by omega, hg1⟩
  refine ⟨fun hy => ⟨abs_delayStage_le h.ring_bound hy, abs_chorusRefOut_le h.ring_bound hy,
    abs_tremoloRefOut_le hdepth hy, abs_nextLp_le h.lp_bound hy, abs_bassRefOut_le h.lp_bound hgain hy⟩,
    fun hy => ⟨abs_reverbRefOut_le h.ring_bound hmix hy, ?_⟩, ?_⟩
  · have hweight : |256 - paramVal s .revMix| ≤ 256 := abs_le.2 ⟨by omega, by omega⟩
    exact (abs_mul_le_of_abs_le hy hweight).trans_lt (by norm_num)
  · exact (abs_lp_mul_bassGain_le h.lp_bound hgain).trans_lt (by norm_num)

end Sys2Proof.Machine
end

section
/-! PROOFS. The engines as one family: their contract, and which enable flags they read (spec/43_effects.md R190 to
R195, R206, R208). -/

namespace Sys2Proof.Machine

section
variable {s : State} {y : Int} {w0 sw : Nat} {e : Effect}

/-! ## The contract (R191, R192) -/

theorem suppliedOut_of_disabled {v : EngineView} {st : EngineState} (h : v.enabled = false) :
    suppliedOut e v y st = y := if_neg (ne_true_of_eq_false h)

theorem abs_suppliedOut_le {v : EngineView} {st : EngineState} (h : v.enabled = true) :
    |suppliedOut e v y st| ≤ Config.suppliedBound e v.cfg := by
  rw [suppliedOut, if_pos h]
  exact abs_le.2 (clamp_mem (by omega))

/-- Under a supplied set every engine of the chain gives its own engine's output. -/
theorem engineOf_out_of_supplied (hs : s.cfg.EFFECT_IMPL = .supplied) (he : e ≠ .delay) :
    ∃ st, (engineOf e y w0 sw s).1 = suppliedOut e (engineView e w0 sw s) y st := by
  cases e with
  | delay => exact absurd rfl he
  | chorus => exact ⟨_, congrArg Prod.fst (chorus_of_supplied y w0 sw hs)⟩
  | tremolo => exact ⟨_, congrArg Prod.fst (tremolo_of_supplied y w0 sw hs)⟩
  | bass => exact ⟨_, congrArg Prod.fst (bass_of_supplied y w0 sw hs)⟩
  | reverb => exact ⟨_, congrArg Prod.fst (reverb_of_supplied y w0 sw hs)⟩

theorem engineOf_out_of_ref_disabled (hs : s.cfg.EFFECT_IMPL = .ref) (h : getEffect s.en e = false) :
    (engineOf e y w0 sw s).1 = y := by
  cases e with
  | delay => rfl
  | chorus => exact (congrArg Prod.fst (chorus_of_ref y w0 sw hs)).trans (chorusRefOut_of_off (.inl h))
  | tremolo => exact (congrArg Prod.fst (tremolo_of_ref y w0 sw hs)).trans (tremoloRefOut_of_disabled h)
  | bass => exact (congrArg Prod.fst (bass_of_ref y w0 sw hs)).trans (bassRefOut_of_disabled h)
  | reverb => exact (congrArg Prod.fst (reverb_of_ref y w0 sw hs)).trans (reverbRefOut_of_off (.inl h))

end

/-- Settles O34: under REF the disabled branch of each engine, under a supplied set the contract of `suppliedOut`. -/
theorem engineContract : Obligations.EngineContract := by
  intro e y w0 sw s
  refine ⟨fun hoff => ?_, fun hs he hon => ?_⟩
  · cases hs : s.cfg.EFFECT_IMPL with
    | ref => exact engineOf_out_of_ref_disabled hs hoff
    | supplied =>
      by_cases he : e = .delay
      · rw [he]; rfl
      · obtain ⟨st, hout⟩ := engineOf_out_of_supplied (y := y) (w0 := w0) (sw := sw) hs he
        exact hout.trans (suppliedOut_of_disabled hoff)
  · obtain ⟨st, hout⟩ := engineOf_out_of_supplied (y := y) (w0 := w0) (sw := sw) hs he
    rw [hout]
    exact abs_suppliedOut_le (v := engineView e w0 sw s) hon

/-! ## Changing enable flags (R194, R208) -/

section
variable {s : State} {y : Int} {w0 sw : Nat} {e : Effect} {en : PerEffect Bool}

theorem delayStage_setEn (h : en.delay = s.en.delay) :
    delayStage y w0 sw { s with en := en } = delayStage y w0 sw s := by
  simp only [delayStage, h]; rfl

theorem chorusRefOut_setEn (h : en.chorus = s.en.chorus) :
    chorusRefOut y w0 sw { s with en := en } = chorusRefOut y w0 sw s := by
  simp only [chorusRefOut, h]; rfl

theorem tremoloRefOut_setEn (h : en.tremolo = s.en.tremolo) :
    tremoloRefOut y { s with en := en } = tremoloRefOut y s := by
  simp only [tremoloRefOut, h]; rfl

theorem bassRefOut_setEn (h : en.bass = s.en.bass) : bassRefOut y { s with en := en } = bassRefOut y s := by
  simp only [bassRefOut, h]; rfl

theorem reverbRefOut_setEn (h : en.reverb = s.en.reverb) :
    reverbRefOut y w0 sw { s with en := en } = reverbRefOut y w0 sw s := by
  simp only [reverbRefOut, h]; rfl

/-- A supplied engine is shown no flag but its own. -/
theorem engineView_setEn (h : getEffect en e = getEffect s.en e) :
    engineView e w0 sw { s with en := en } = engineView e w0 sw s := by
  simp only [engineView, h]

/-- R208: under REF no next state depends on a flag. -/
theorem engineOf_state_setEn_of_ref (hs : s.cfg.EFFECT_IMPL = .ref) :
    (engineOf e y w0 sw { s with en := en }).2 = { (engineOf e y w0 sw s).2 with en := en } := by
  have hs' : ({ s with en := en } : State).cfg.EFFECT_IMPL = .ref := hs
  cases e with
  | delay => rfl
  | chorus => simp only [engineOf, chorus_of_ref _ _ _ hs, chorus_of_ref _ _ _ hs']
  | tremolo => simp only [engineOf, tremolo_of_ref _ _ _ hs, tremolo_of_ref _ _ _ hs']
  | bass => simp only [engineOf, bass_of_ref _ _ _ hs, bass_of_ref _ _ _ hs']; rfl
  | reverb => simp only [engineOf, reverb_of_ref _ _ _ hs, reverb_of_ref _ _ _ hs']

theorem engineOf_out_setEn_of_ref (hs : s.cfg.EFFECT_IMPL = .ref) (h : getEffect en e = getEffect s.en e) :
    (engineOf e y w0 sw { s with en := en }).1 = (engineOf e y w0 sw s).1 := by
  have hs' : ({ s with en := en } : State).cfg.EFFECT_IMPL = .ref := hs
  cases e with
  | delay => rfl
  | chorus => simp only [engineOf, chorus_of_ref _ _ _ hs, chorus_of_ref _ _ _ hs', chorusRefOut_setEn h]
  | tremolo => simp only [engineOf, tremolo_of_ref _ _ _ hs, tremolo_of_ref _ _ _ hs', tremoloRefOut_setEn h]
  | bass =>
    simp only [engineOf, bass_of_ref _ _ _ hs, bass_of_ref _ _ _ hs']
    exact bassRefOut_setEn (s := { s with lp_b := _ }) h
  | reverb => simp only [engineOf, reverb_of_ref _ _ _ hs, reverb_of_ref _ _ _ hs', reverbRefOut_setEn h]

theorem engineOf_setEn_of_supplied (hs : s.cfg.EFFECT_IMPL = .supplied) (h : getEffect en e = getEffect s.en e) :
    engineOf e y w0 sw { s with en := en } =
      ((engineOf e y w0 sw s).1, { (engineOf e y w0 sw s).2 with en := en }) := by
  have hs' : ({ s with en := en } : State).cfg.EFFECT_IMPL = .supplied := hs
  cases e with
  | delay => rfl
  | chorus => simp only [engineOf, chorus_of_supplied _ _ _ hs, chorus_of_supplied _ _ _ hs', engineView_setEn h]
  | tremolo => simp only [engineOf, tremolo_of_supplied _ _ _ hs, tremolo_of_supplied _ _ _ hs', engineView_setEn h]
  | bass => simp only [engineOf, bass_of_supplied _ _ _ hs, bass_of_supplied _ _ _ hs', engineView_setEn h]
  | reverb => simp only [engineOf, reverb_of_supplied _ _ _ hs, reverb_of_supplied _ _ _ hs', engineView_setEn h]

end

/-- Settles O35: under REF the output and the next state apart, under a supplied set both from the engine's view. -/
theorem enginesReadOnlyTheirOwnFlag : Obligations.EnginesReadOnlyTheirOwnFlag := by
  intro e y w0 sw s en
  refine ⟨fun h => ?_, engineOf_state_setEn_of_ref⟩
  cases hs : s.cfg.EFFECT_IMPL with
  | ref => exact Prod.ext (engineOf_out_setEn_of_ref hs h) (engineOf_state_setEn_of_ref hs)
  | supplied => exact engineOf_setEn_of_supplied hs h

/-! ## The engines' states after a tick (R206) -/

section
variable {s : State} (raw : Int) {en : PerEffect Bool}

/-- Under REF a tick moves each phase by its increment (R198, R200). -/
theorem tickState_phases_of_ref (hs : s.cfg.EFFECT_IMPL = .ref) :
    (tickState raw s).ph_c = s.ph_c + s.ch_inc ∧ (tickState raw s).ph_t = s.ph_t + s.trem_inc := by
  have hs' : (conditioner raw (countTick s)).2.cfg.EFFECT_IMPL = .ref := hs
  obtain ⟨_, _, _, _, ht, hpc, hpt, -⟩ := tickState_eq raw s
  rw [ht, hpc, hpt]
  simp only [tickChain, audioPath, chain, chorus_of_ref, tremolo_of_ref, bass_of_ref, reverb_of_ref, hs']
  exact ⟨rfl, rfl⟩

/-- The low-pass state follows the tremolo's output, so it depends on the flags up to there alone (R202). -/
theorem chain_lp_b_setEn_of_ref {y : Int} {w0 sw : Nat} (hs : s.cfg.EFFECT_IMPL = .ref)
    (hc : en.chorus = s.en.chorus) (ht : en.tremolo = s.en.tremolo) :
    (chain y w0 sw { s with en := en }).2.lp_b = (chain y w0 sw s).2.lp_b := by
  rw [chain_lp_b_of_ref hs, chain_lp_b_of_ref (s := { s with en := en }) hs, chorusRefOut_setEn hc,
    tremoloRefOut_setEn ht]
  rfl

/-- The conditioner reads no flag, so the chain runs on the same sample with the same registers. -/
theorem tickState_lp_b_setEn_of_ref (hs : s.cfg.EFFECT_IMPL = .ref) (hd : en.delay = s.en.delay)
    (hc : en.chorus = s.en.chorus) (ht : en.tremolo = s.en.tremolo) :
    (tickState raw { s with en := en }).lp_b = (tickState raw s).lp_b := by
  have hcond : conditioner raw (countTick { s with en := en }) =
      ((conditioner raw (countTick s)).1, { (conditioner raw (countTick s)).2 with en := en }) := rfl
  rw [tickState_lp_b, tickState_lp_b, tickChain, tickChain, tickSample, tickSample, hcond, audioPath, audioPath,
    delayStage_setEn (s := (conditioner raw (countTick s)).2) hd]
  exact chain_lp_b_setEn_of_ref (s := (conditioner raw (countTick s)).2) hs hc ht

/-- With other flags a tick leaves the same state but for the flags, the engines' states and the output. -/
theorem tickState_setEn : ∃ pc pt lp x u o, tickState raw { s with en := en } =
    { tickState raw s with
      en := en, ph_c := pc, ph_t := pt, lp_b := lp, supplied := x, out_level := u, outputs := o } := by
  obtain ⟨_, _, _, _, h, -⟩ := tickState_eq raw s
  obtain ⟨_, _, _, _, h', -⟩ := tickState_eq raw { s with en := en }
  rw [h', h]
  exact ⟨_, _, _, _, _, _, rfl⟩

end

/-- Settles O36: `tickState_setEn` leaves the phases, which each move by their increment, and the low-pass state, which
reads the flags of the engines before it. -/
theorem warmStateDoesNotDependOnTheFlags : Obligations.WarmStateDoesNotDependOnTheFlags := by
  intro raw s t u en hs ht hu
  obtain rfl := exec_tick_next.1 ht
  obtain rfl := exec_tick_next.1 hu
  obtain ⟨hpc, hpt⟩ := tickState_phases_of_ref raw hs
  obtain ⟨hpc', hpt'⟩ := tickState_phases_of_ref raw (s := { s with en := en }) hs
  have hlp := tickState_lp_b_setEn_of_ref (en := en) raw hs
  obtain ⟨_, _, _, _, _, _, heq⟩ := tickState_setEn raw (s := s) (en := en)
  rw [heq] at hpc' hpt' hlp ⊢
  exact ⟨⟨rfl, rfl, rfl, rfl⟩, rfl, rfl, rfl, rfl, hpc'.trans hpc.symm, hpt'.trans hpt.symm, hlp⟩

end Sys2Proof.Machine
end

section
/-! PROOFS. The level a tick emits (spec/40_tick.md R131; spec/44_output.md R230 to R233). -/

namespace Sys2Proof.Machine

/-- The output stage as R230 to R232 write it. -/
theorem outStage_eq (c : LegalConfig) (y5 : Int) : outStage c y5 = max 0 (min (c.OUTPUT_SCALE : Int)
    (max (-(c.OUT_CLIP : Int)) (min (c.OUT_CLIP : Int) y5) + (c.OUTPUT_SCALE : Int) / 2)) := by
  rw [outStage, clamp_eq_max_min (by omega), recentre, hardClip, clamp_eq_max_min (by omega),
    Nat.shiftRight_eq_div_pow, pow_one, Int.natCast_ediv, Nat.cast_ofNat]

/-- R234: the 32-bit register holds the output stage's level exactly. -/
theorem toReg_outStage_toNat (c : LegalConfig) (y5 : Int) :
    ((toReg 32 (outStage c y5)).toNat : Int) = outStage c y5 := by
  have hS := c.OUTPUT_SCALE_le
  obtain ⟨hlo, hhi⟩ : 0 ≤ outStage c y5 ∧ outStage c y5 ≤ c.OUTPUT_SCALE := clamp_mem (by omega)
  exact toReg_toNat hlo (by omega)

/-- Settles O42: `tickState_eq` lists the output level, the emission and the engines' states, and its chain is the four
engines in order. -/
theorem tickEmitsTheOutputLevel : Obligations.TickEmitsTheOutputLevel := by
  intro raw s
  have hc := tickSample_eq raw s
  obtain ⟨_, _, _, _, ht, rfl, rfl, rfl, rfl⟩ := tickState_eq raw s
  refine ⟨tickState raw s, rfl, hc, ?_⟩
  rw [ht]
  exact ⟨(toReg_outStage_toNat _ _).trans (outStage_eq _ _), rfl, rfl, rfl, rfl, rfl, rfl⟩

end Sys2Proof.Machine
end

section
/-! PROOFS. The output stage's range and mid-level (spec/44_output.md R230 to R234). -/

namespace Sys2Proof.Machine

section
variable (c : LegalConfig) (y5 : Int)

/-- R230: the clipped value is 0 only for the sample 0 or under a clip at 0. -/
theorem hardClip_eq_zero_iff : hardClip c y5 = 0 ↔ y5 = 0 ∨ c.OUT_CLIP = 0 := by
  rw [hardClip, clamp_eq_max_min (by omega)]
  omega

/-- R231, R232: the output from the clipped value. -/
theorem outStage_eq_of_hardClip : outStage c y5 =
    max 0 (min (c.OUTPUT_SCALE : Int) (hardClip c y5 + (c.OUTPUT_SCALE : Int) / 2)) := by
  rw [outStage_eq, hardClip, clamp_eq_max_min (by omega)]

theorem outStage_eq_half_of_hardClip_eq_zero (h : hardClip c y5 = 0) :
    outStage c y5 = (c.OUTPUT_SCALE : Int) / 2 := by
  rw [outStage_eq_of_hardClip]
  omega

/-- R234: with room on both sides of the mid-level, only the clipped value 0 gives it. -/
theorem outStage_eq_half_iff (hS : 2 ≤ c.OUTPUT_SCALE) :
    outStage c y5 = (c.OUTPUT_SCALE : Int) / 2 ↔ hardClip c y5 = 0 := by
  refine ⟨fun h => ?_, outStage_eq_half_of_hardClip_eq_zero c y5⟩
  rw [outStage_eq_of_hardClip] at h
  omega

/-- R232: a clip within half the output scale leaves the final clamp nothing to do. -/
theorem outStage_eq_recentred (h : c.OUT_CLIP ≤ c.OUTPUT_SCALE / 2) :
    outStage c y5 = hardClip c y5 + (c.OUTPUT_SCALE : Int) / 2 := by
  obtain ⟨hlo, hhi⟩ : -(c.OUT_CLIP : Int) ≤ hardClip c y5 ∧ hardClip c y5 ≤ c.OUT_CLIP := clamp_mem (by omega)
  rw [outStage_eq_of_hardClip]
  omega

end

/-- Settles O44: the range is the final clamp's; `outStage_eq_half_iff` with `hardClip_eq_zero_iff` is the mid-level, and
`outStage_eq_recentred` the clamp that changes nothing. -/
theorem outputIsMidLevelExactlyForZero : Obligations.OutputIsMidLevelExactlyForZero := by
  intro c y5
  obtain ⟨hlo, hhi⟩ : 0 ≤ outStage c y5 ∧ outStage c y5 ≤ c.OUTPUT_SCALE := clamp_mem (by omega)
  refine ⟨hlo, hhi, fun hS => ?_, fun hS hz => ?_, outStage_eq_recentred c y5⟩
  · exact (outStage_eq_half_iff c y5 hS).trans (hardClip_eq_zero_iff c y5)
  · rw [outStage_eq_of_hardClip]
    omega

end Sys2Proof.Machine
end

section
/-! PROOFS. A constant input with every effect off (spec/44_output.md R234; spec/95_test_vectors.md W7). -/

namespace Sys2Proof.Machine

/-! ## A chain of disabled engines (R190, R191) -/

/-- No engine writes an enable flag. -/
theorem engineOf_en (e : Effect) (y : Int) (w0 sw : Nat) (s : State) : (engineOf e y w0 sw s).2.en = s.en := by
  cases e with
  | delay => rfl
  | chorus => obtain ⟨_, _, h⟩ := chorus_state y w0 sw s; rw [engineOf, h]
  | tremolo => obtain ⟨_, _, h⟩ := tremolo_state y w0 sw s; rw [engineOf, h]
  | bass => obtain ⟨_, _, h⟩ := bass_state y w0 sw s; rw [engineOf, h]
  | reverb => obtain ⟨_, h⟩ := reverb_state y w0 sw s; rw [engineOf, h]

/-- One engine's turn in the chain, on the sample and the state that the engine before it left. -/
def engineTurn (w0 sw : Nat) (p : Int × State) (e : Effect) : Int × State := engineOf e p.1 w0 sw p.2

theorem chain_eq_foldl (y : Int) (w0 sw : Nat) (s : State) : chain y w0 sw s =
    [Effect.chorus, .tremolo, .bass, .reverb].foldl (engineTurn w0 sw) (y, s) := rfl

/-- Disabled engines, in any order, pass the sample on: none of them enables a later one. -/
theorem foldl_engineTurn_of_disabled {w0 sw : Nat} (es : List Effect) {p : Int × State}
    (h : ∀ e, getEffect p.2.en e = false) : (es.foldl (engineTurn w0 sw) p).1 = p.1 := by
  induction es generalizing p with
  | nil => rfl
  | cons e es ih =>
    have hen : (engineTurn w0 sw p e).2.en = p.2.en := engineOf_en e p.1 w0 sw p.2
    have hout : (engineTurn w0 sw p e).1 = p.1 := (engineContract e p.1 w0 sw p.2).1 (h e)
    rw [List.foldl_cons, ih (by rwa [hen]), hout]

theorem audioPath_of_disabled {y : Int} {w0 sw : Nat} {s : State} (h : ∀ e, getEffect s.en e = false) :
    (audioPath y w0 sw s).1 = y := by
  rw [audioPath, delayStage_of_disabled (h .delay), chain_eq_foldl]
  exact foldl_engineTurn_of_disabled _ h

/-! ## What a tick emits -/

theorem tickState_en (raw : Int) (s : State) : (tickState raw s).en = s.en := by
  obtain ⟨_, _, _, _, ht, -⟩ := tickState_eq raw s
  rw [ht]

/-- R233: a tick emits one value, the output stage's on the chain's output. -/
theorem tickState_outputs (raw : Int) (s : State) :
    (tickState raw s).outputs = s.outputs ++ [toReg 32 (outStage s.cfg (tickChain raw s).1)] := by
  obtain ⟨_, _, _, _, ht, -⟩ := tickState_eq raw s
  rw [ht]

/-! ## A machine settled on its input -/

/-- Every effect is off, and the conditioner takes `raw` for the zero level: the bias, once seeded, is `raw`, and the
high-pass filter holds nothing. -/
structure SettledOn (raw : Int) (s : State) : Prop where
  effects_off : ∀ e, getEffect s.en e = false
  bias : s.bias_seeded = true → s.bias.toInt = raw
  hpf_lp : s.hpf_lp.toInt = 0

/-- After reset no sample has seeded the bias, so the machine is settled on whichever comes first. -/
theorem settledOn_resetWith (c : LegalConfig) (raw : Int) : SettledOn raw (State.resetWith c) where
  effects_off e := by cases e <;> rfl
  bias := nofun
  hpf_lp := rfl

section
variable {raw : Int} {s : State}

/-- R140: the first sample seeds the bias, and an equal one does not move it. -/
theorem SettledOn.bias_after_tick (h : SettledOn raw s) (hr : InRawRange raw) :
    (tickState raw s).bias.toInt = raw := by
  cases hs : s.bias_seeded with
  | false => exact tickState_bias_of_unseeded hr hs
  | true => rw [tickState_bias_of_seeded hr hs, h.bias hs, Int.sub_self, Int.zero_ediv, Int.add_zero]

theorem SettledOn.biasRemoved_eq_zero (h : SettledOn raw s) (hr : InRawRange raw) :
    biasRemoved (tickState raw s) raw = 0 := by
  rw [biasRemoved, h.bias_after_tick hr, Int.sub_self]

theorem SettledOn.after_tick (h : SettledOn raw s) (hr : InRawRange raw) : SettledOn raw (tickState raw s) where
  effects_off := by rw [tickState_en]; exact h.effects_off
  bias _ := h.bias_after_tick hr
  hpf_lp := by simp [tickState_hpf_lp_toInt s hr, h.biasRemoved_eq_zero hr, h.hpf_lp]

/-- R141 to R152: both settings of HPF_SEL scale 0, which the gain and the limiter leave as it is. -/
theorem SettledOn.tickSample_eq_zero (h : SettledOn raw s) (hr : InRawRange raw) : tickSample raw s = 0 := by
  have hscaled : scaledSample (tickState raw s) raw = 0 := by
    simp [scaledSample, highPassed, h.biasRemoved_eq_zero hr, (h.after_tick hr).hpf_lp]
  rw [tickSample_eq, conditionedSample_eq_limitIn, agcOut, hscaled, Int.zero_mul, Int.zero_ediv]
  exact limitIn_of_within (by simp)

theorem SettledOn.tickChain_eq_zero (h : SettledOn raw s) (hr : InRawRange raw) : (tickChain raw s).1 = 0 :=
  (audioPath_of_disabled (s := (conditioner raw (countTick s)).2) h.effects_off).trans (h.tickSample_eq_zero hr)

/-- R234: the tick emits the mid-level. -/
theorem SettledOn.outputs_after_tick (h : SettledOn raw s) (hr : InRawRange raw) :
    (tickState raw s).outputs.map BitVec.toNat = s.outputs.map BitVec.toNat ++ [s.cfg.OUTPUT_SCALE / 2] := by
  have hclip : hardClip s.cfg 0 = 0 := (hardClip_eq_zero_iff s.cfg 0).2 (.inl rfl)
  have hlevel := (toReg_outStage_toNat s.cfg 0).trans (outStage_eq_half_of_hardClip_eq_zero s.cfg 0 hclip)
  have hnat : (toReg 32 (outStage s.cfg 0)).toNat = s.cfg.OUTPUT_SCALE / 2 := by omega
  rw [tickState_outputs, h.tickChain_eq_zero hr, List.map_append, List.map_singleton, hnat]

/-- A settled machine stays settled, so every tick of the run emits the mid-level. -/
theorem SettledOn.runEvents_replicate (h : SettledOn raw s) (hr : InRawRange raw) (n : Nat) :
    ∃ t, runEvents (List.replicate n (.tick raw)) s = .next t ∧
      t.outputs.map BitVec.toNat = s.outputs.map BitVec.toNat ++ List.replicate n (s.cfg.OUTPUT_SCALE / 2) := by
  induction n generalizing s with
  | zero => exact ⟨s, rfl, (List.append_nil _).symm⟩
  | succ n ih =>
    obtain ⟨t, hrun, hout⟩ := ih (h.after_tick hr)
    refine ⟨t, by rw [List.replicate_succ, runEvents_cons]; exact hrun, ?_⟩
    rw [hout, h.outputs_after_tick hr, tickState_cfg, List.append_assoc, List.singleton_append, List.replicate_succ]

end

/-- Settles O45: the reset state is settled on the sample, whatever it is, and a settled machine emits the mid-level on
every tick. -/
theorem constantInputGivesTheMidLevel : Obligations.ConstantInputGivesTheMidLevel := fun c raw n hr =>
  (settledOn_resetWith c raw).runEvents_replicate hr n

end Sys2Proof.Machine
end

section
/-! PROOFS. The quadrature decoder: what one encoder reading does, and what a run of readings dispatches
(spec/45_quadrature.md R240 to R249). -/

namespace Sys2Proof.Machine

/-- Settles O47: the two tables agree on all 16 pairs of readings. -/
theorem transitionClasses : Obligations.TransitionClasses := by
  unfold Obligations.TransitionClasses
  decide

/-! ## The directions dispatched -/

/-- The directions that one transition dispatches: a single one at an event, none at any other pair (R242, R243). -/
def stepDirs (p r : BitVec 2) : List Int :=
  if isCwEvent p r then [1] else if isCcwEvent p r then [-1] else []

/-- The directions that readings dispatch, one after another from the previous reading `p`. -/
def runDirs : BitVec 2 → List (BitVec 2) → List Int
  | _, [] => []
  | p, r :: rs => stepDirs p r ++ runDirs r rs

/-- The dispatches of a list of directions, in order. -/
def rotateAll (dirs : List Int) (s : State) : State := dirs.foldl (fun s dir => rotDispatch dir s) s

theorem stepDirs_of_cw {p r : BitVec 2} (h : isCwEvent p r = true) : stepDirs p r = [1] := if_pos h

theorem stepDirs_of_ccw {p r : BitVec 2} (h : isCcwEvent p r = true) : stepDirs p r = [-1] := by
  have hcw : isCwEvent p r = false := by simpa [h] using not_both_events p r
  simp [stepDirs, hcw, h]

theorem stepDirs_of_no_event {p r : BitVec 2} (hcw : isCwEvent p r = false) (hccw : isCcwEvent p r = false) :
    stepDirs p r = [] := by
  simp [stepDirs, hcw, hccw]

theorem rotateAll_append (ds es : List Int) (s : State) :
    rotateAll (ds ++ es) s = rotateAll es (rotateAll ds s) := List.foldl_append

/-! ## Dispatches and the quadrature state (R258) -/

theorem rotDispatch_setEncPrev (dir : Int) (r : BitVec 2) (s : State) :
    rotDispatch dir { s with enc_prev := r } = { rotDispatch dir s with enc_prev := r } := by
  unfold rotDispatch
  cases priorityEffect s.en with
  | none => rfl
  | some e => cases e <;> rfl

theorem rotateAll_setEncPrev (dirs : List Int) (r : BitVec 2) (s : State) :
    rotateAll dirs { s with enc_prev := r } = { rotateAll dirs s with enc_prev := r } := by
  induction dirs generalizing s with
  | nil => rfl
  | cons dir dirs ih => exact (congrArg (rotateAll dirs) (rotDispatch_setEncPrev dir r s)).trans (ih _)

theorem rotDispatch_keepsQuadrature (dir : Int) (s : State) : KeepsQuadrature s (rotDispatch dir s) := by
  obtain ⟨_, _, _, h⟩ := rotDispatch_state dir s
  rw [h]
  exact ⟨rfl, rfl, rfl⟩

theorem rotateAll_keepsQuadrature (dirs : List Int) (s : State) : KeepsQuadrature s (rotateAll dirs s) := by
  induction dirs generalizing s with
  | nil => exact ⟨rfl, rfl, rfl⟩
  | cons dir dirs ih =>
    obtain ⟨hp, hcw, hccw⟩ := rotDispatch_keepsQuadrature dir s
    obtain ⟨hp', hcw', hccw'⟩ := ih (rotDispatch dir s)
    exact ⟨hp'.trans hp, hcw'.trans hcw, hccw'.trans hccw⟩

/-! ## Readings from a state between events -/

section
variable {s : State} (hcw : s.cw_seen = false) (hccw : s.ccw_seen = false)
include hcw hccw

theorem clear_flags_eq (ab : BitVec 2) :
    ({ s with enc_prev := ab, cw_seen := false, ccw_seen := false } : State) = { s with enc_prev := ab } := by
  rw [hcw, hccw]

/-- R241: the dispatches of the transition, and the reading becomes the previous one. -/
theorem encState_eq (ab : BitVec 2) :
    encState ab s = { rotateAll (stepDirs s.enc_prev ab) s with enc_prev := ab } := by
  have hrot : ∀ dir, ({ rotDispatch dir s with enc_prev := ab, cw_seen := false, ccw_seen := false } : State) =
      { rotDispatch dir s with enc_prev := ab } := fun dir => by
    obtain ⟨_, hc, hcc⟩ := rotDispatch_keepsQuadrature dir s
    exact clear_flags_eq (hc.trans hcw) (hcc.trans hccw) ab
  rcases encState_cases ab hcw hccw with ⟨hev, he⟩ | ⟨hev, he⟩ | ⟨hno, hno', he⟩
  · rw [he, clearRotation_rotDispatch_latchRotation, hrot, stepDirs_of_cw hev]; rfl
  · rw [he, clearRotation_rotDispatch_latchRotation, hrot, stepDirs_of_ccw hev]; rfl
  · rw [he, clear_flags_eq hcw hccw, stepDirs_of_no_event hno hno']; rfl

theorem exec_enc (ab : BitVec 2) :
    exec (.enc ab) s = .next { rotateAll (stepDirs s.enc_prev ab) s with enc_prev := ab } :=
  (exec_eq (.enc ab) s).trans (congrArg _ (encState_eq hcw hccw ab))

/-- A reading whose transition is no event changes only the previous reading (R244). -/
theorem exec_enc_of_no_event {ab : BitVec 2} (h : stepDirs s.enc_prev ab = []) :
    exec (.enc ab) s = .next { s with enc_prev := ab } := by
  rw [exec_enc hcw hccw, h]; rfl

/-- A run of readings dispatches the directions of its transitions, and the last reading becomes the previous one. -/
theorem runEvents_enc (rs : List (BitVec 2)) : runEvents (rs.map .enc) s =
    .next { rotateAll (runDirs s.enc_prev rs) s with enc_prev := rs.getLastD s.enc_prev } := by
  induction rs generalizing s with
  | nil => rfl
  | cons r rs ih =>
    obtain ⟨-, hc, hcc⟩ := rotateAll_keepsQuadrature (stepDirs s.enc_prev r) s
    have hrun := ih (s := execState (.enc r) s)
    rw [List.map_cons, runEvents_cons]
    rw [execState, encState_eq hcw hccw] at hrun ⊢
    rw [hrun (hc.trans hcw) (hcc.trans hccw), rotateAll_setEncPrev, runDirs, rotateAll_append, List.getLastD_cons]

/-- A run of readings that ends at the reading it began from changes nothing but by its dispatches. -/
theorem runEvents_enc_closed (rs : List (BitVec 2)) {dirs : List Int} (hlast : rs.getLastD s.enc_prev = s.enc_prev)
    (hdirs : runDirs s.enc_prev rs = dirs) : runEvents (rs.map .enc) s = .next (rotateAll dirs s) := by
  obtain ⟨hp, -⟩ := rotateAll_keepsQuadrature dirs s
  rw [runEvents_enc hcw hccw, hlast, hdirs, ← hp]

end

/-! ## The transitions of the rules -/

theorem stepDirs_eq_nil {p r : BitVec 2} (h : r ≠ 0b00#2 ∨ p = 0b00#2 ∨ p = 0b11#2) : stepDirs p r = [] := by
  revert p r; decide

/-- R242: a two-bit jump is no event. -/
theorem stepDirs_jump (p : BitVec 2) : stepDirs p (~~~p) = [] := by
  revert p; decide

/-- R246: a clean clockwise cycle has the transition `10 -> 00` once and `01 -> 00` never, from any reading. -/
theorem runDirs_cwCycle (q : BitVec 2) :
    runDirs q [cwNext q, cwNext (cwNext q), cwNext (cwNext (cwNext q)), q] = [1] := by
  revert q; decide

/-- R246: a clean counter-clockwise cycle has the transition `01 -> 00` once and `10 -> 00` never. -/
theorem runDirs_ccwCycle (q : BitVec 2) :
    runDirs q [cwNext (cwNext (cwNext q)), cwNext (cwNext q), cwNext q, q] = [-1] := by
  revert q; decide

/-! ## The obligations -/

/-- Settles O46: a reading dispatches the direction of its transition, if it has one. -/
theorem encoderReading : Obligations.EncoderReading := by
  intro ab s hcw hccw
  refine ⟨?_, ?_, fun h => exec_enc_of_no_event hcw hccw (stepDirs_eq_nil h)⟩
  · intro hp hab
    rw [exec_enc hcw hccw, hp, hab, stepDirs_of_cw rfl]; rfl
  · intro hp hab
    rw [exec_enc hcw hccw, hp, hab, stepDirs_of_ccw rfl]; rfl

/-- Settles O48: both cycles end at the reading they began from, and a cycle has one event, of its direction. -/
theorem cleanCycleDispatchesOnce : Obligations.CleanCycleDispatchesOnce := by
  rintro q s hcw hccw rfl
  let q1 := cwNext s.enc_prev
  let q2 := cwNext q1
  let q3 := cwNext q2
  exact ⟨runEvents_enc_closed hcw hccw [q1, q2, q3, s.enc_prev] rfl (runDirs_cwCycle _),
    runEvents_enc_closed hcw hccw [q3, q2, q1, s.enc_prev] rfl (runDirs_ccwCycle _),
    exec_enc_of_no_event hcw hccw (stepDirs_jump _)⟩

/-- Settles O49: a bounce at 00 ends at the reading it began from, and its last transition is an event; no transition
from 00 is one. -/
theorem bounceAtRestIsAnEvent : Obligations.BounceAtRestIsAnEvent := by
  intro s hcw hccw hp
  have hccwBounce : runDirs s.enc_prev [0b01, 0b00] = [-1] := by rw [hp]; rfl
  have hcwBounce : runDirs s.enc_prev [0b10, 0b00] = [1] := by rw [hp]; rfl
  exact ⟨runEvents_enc_closed hcw hccw [0b01, 0b00] hp.symm hccwBounce,
    runEvents_enc_closed hcw hccw [0b10, 0b00] hp.symm hcwBounce,
    fun _ => exec_enc_of_no_event hcw hccw (stepDirs_eq_nil (.inr (.inl hp)))⟩

end Sys2Proof.Machine
end

section
/-! PROOFS. The dispatcher's rotations (spec/46_dispatch.md R258 to R262). -/

namespace Sys2Proof.Machine

theorem rotDispatch_of_none (dir : Int) {s : State} (h : ∀ e, getEffect s.en e = false) : rotDispatch dir s = s := by
  rw [rotDispatch, priorityEffect_eq_none.2 h]

theorem rotDispatch_of_first (dir : Int) {s : State} {e : Effect} (he : getEffect s.en e = true)
    (hfirst : ∀ e', e'.id.toNat < e.id.toNat → getEffect s.en e' = false) : rotDispatch dir s =
      paramWrite (relParam e) (paramVal s (relParam e) + dir * (rangeOf s (relParam e)).STEP) s := by
  rw [rotDispatch, priorityEffect_eq_some he hfirst]

/-- No effect has the chorus rate as its relevant parameter (R259). -/
theorem relParam_ne_chorusRate (e : Effect) : relParam e ≠ .chorusRate := by cases e <;> decide

/-- A state that differs in other fields alone keeps these definitionally, so this serves for it too. -/
theorem keepsAudio_refl (s : State) : KeepsAudio s s :=
  ⟨⟨rfl, rfl, rfl, rfl⟩, ⟨fun _ => rfl, rfl, rfl⟩, ⟨rfl, rfl⟩, rfl, rfl, rfl, rfl⟩

/-- Settles O50: with a first enabled effect the dispatch is the write of that effect's relevant parameter, and
`paramWrite_eq` and `paramVal_paramWrite` say all that a parameter write does; the frame is `rotDispatch_state`. -/
theorem rotationAdjustsTheFirstEnabledEffect : Obligations.RotationAdjustsTheFirstEnabledEffect := by
  refine ⟨⟨rfl, rfl, rfl, rfl, rfl⟩, fun dir s => ⟨rotDispatch_of_none dir, fun e he hfirst => ?_, ?_⟩⟩
  · intro p
    have hw : rotDispatch dir s = paramWrite p (paramVal s p + dir * (rangeOf s p).STEP) s :=
      rotDispatch_of_first dir he hfirst
    have hch : p ≠ .chorusRate := relParam_ne_chorusRate e
    rw [hw]
    refine ⟨(paramVal_paramWrite p p _ s).trans (if_pos rfl),
      fun q hq => (paramVal_paramWrite p q _ s).trans (if_neg hq), ?_, ?_, fun hp => ?_, fun hp => ?_⟩
    · rw [paramWrite_eq]
    · rw [paramWrite_eq]; exact if_neg hch
    · rw [paramWrite_eq]; exact if_neg hp
    · conv_lhs => rw [paramWrite_eq]
      exact if_pos hp
  · obtain ⟨_, _, _, hs⟩ := rotDispatch_state dir s
    rw [hs]
    exact ⟨keepsAudio_refl s, ⟨rfl, rfl, rfl⟩, ⟨rfl, rfl, rfl, rfl⟩, ⟨rfl, rfl, rfl, rfl⟩, rfl, rfl⟩

end Sys2Proof.Machine
end

section
/-! PROOFS. Button readings and the debounce window (spec/46_dispatch.md R250 to R257). -/

namespace Sys2Proof.Machine

section
variable {lv : BitVec 6} {s : State} {e : Effect}

/-! ## Which buttons rise (R250, R251) -/

/-- The button of `e` rises: it is pressed in the reading `lv` and was not in the reading before. -/
abbrev Rises (lv : BitVec 6) (s : State) (e : Effect) : Prop := e.button &&& lv ≠ 0 ∧ e.button &&& s.btn_prev = 0

/-- The button of `e` rises, and no button of a lower-numbered effect does. -/
abbrev FirstRises (lv : BitVec 6) (s : State) (e : Effect) : Prop :=
  Rises lv s e ∧ ∀ e', e'.id.toNat < e.id.toNat → ¬ Rises lv s e'

/-- A reading has the button of an effect up exactly when the effect's bit of the five low bits is 0 (R106). -/
theorem button_and_eq_zero (e : Effect) (lv : BitVec 6) :
    e.button &&& lv = 0 ↔ riseOf (lv.extractLsb' 0 5) e = false := by
  cases e <;> revert lv <;> decide

theorem riseOf_and_not (x y : BitVec 5) (e : Effect) : riseOf (x &&& ~~~y) e = (riseOf x e && !riseOf y e) := by
  cases e <;> simp [riseOf]

theorem riseOf_risingEdges : riseOf (risingEdges s lv) e = true ↔ Rises lv s e := by
  rw [risingEdges, riseOf_and_not, Rises, ne_eq, button_and_eq_zero, button_and_eq_zero]
  simp

theorem exists_firstRises (h : ∃ e, Rises lv s e) : ∃ e, FirstRises lv s e := by
  obtain ⟨e, he, hmin⟩ := (measure fun e : Effect => e.id.toNat).wf.has_min {e | Rises lv s e} h
  exact ⟨e, he, fun e' hlt he' => hmin e' he' hlt⟩

/-- The loop of R250 meets the first rising button first (R253). -/
theorem find?_riseOf_of_firstRises (h : FirstRises lv s e) :
    [Effect.delay, .chorus, .tremolo, .bass, .reverb].find? (riseOf (risingEdges s lv)) = some e := by
  obtain ⟨he, hfirst⟩ := h
  simp only [← riseOf_risingEdges, Bool.not_eq_true] at he hfirst
  have h0 := hfirst .delay; have h1 := hfirst .chorus; have h2 := hfirst .tremolo; have h3 := hfirst .bass
  cases e <;> simp_all [Effect.id]

/-! ## The debounce window (R252) -/

/-- The ticks since the last accepted press, modulo 2^32. -/
abbrev ticksSincePress (s : State) : Nat := (s.tick_count.toNat + 2 ^ 32 - s.last_any.toNat) % 2 ^ 32

theorem accept_eq_true_iff :
    accept s = true ↔ s.any_accepted = false ∨ ticksSincePress s > s.cfg.DEBOUNCE_TICKS := by
  have hdelta : (s.tick_count - s.last_any).toNat = ticksSincePress s := by
    have := s.last_any.isLt
    rw [BitVec.toNat_sub, ticksSincePress]
    congr 1
    omega
  simp [accept, hdelta]

/-! ## All that a reading does -/

theorem btnState_of_accept (ha : accept s = true) (he : FirstRises lv s e) :
    btnState lv s = acceptPress e { s with btn_prev := lv } := by
  rw [btnState_eq, if_pos ha, find?_riseOf_of_firstRises he]

theorem btnState_of_not_accept (ha : ¬ accept s = true) : btnState lv s = { s with btn_prev := lv } := by
  rw [btnState_eq, if_neg ha]

theorem btnState_of_no_rise (h : ∀ e, ¬ Rises lv s e) : btnState lv s = { s with btn_prev := lv } := by
  have hnone : [Effect.delay, .chorus, .tremolo, .bass, .reverb].find? (riseOf (risingEdges s lv)) = none :=
    List.find?_eq_none.2 fun e _ => riseOf_risingEdges.not.2 (h e)
  rw [btnState_eq, hnone, ite_self]

end

/-- Settles O52: the first rising button, if a press is acceptable, is accepted alone; in the other two cases the
reading is recorded and nothing else happens; the frame is `btnState_state`. -/
theorem buttonReading : Obligations.ButtonReading := by
  intro lv s
  obtain ⟨_, _, _, _, hs⟩ := btnState_state lv s
  refine ⟨btnState lv s, rfl, by rw [hs], fun h => ?_, fun e he hfirst hwin => ?_, ?_⟩
  · have hsame : btnState lv s = { s with btn_prev := lv } := by
      rcases h with ⟨hany, hwin⟩ | hno
      · exact btnState_of_not_accept fun hacc =>
          (accept_eq_true_iff.1 hacc).elim (by simp [hany]) (Nat.not_lt.2 hwin)
      · exact btnState_of_no_rise hno
    rw [hsame]
    exact ⟨rfl, rfl, rfl, rfl⟩
  · rw [btnState_of_accept (accept_eq_true_iff.2 hwin) ⟨he, hfirst⟩]
    simp +contextual
  · rw [hs]
    exact ⟨⟨rfl, rfl, rfl⟩, keepsAudio_refl s, ⟨rfl, rfl, rfl⟩, ⟨rfl, rfl, rfl, rfl⟩, rfl, rfl⟩

/-- Settles O53: some button is the first to rise, and after an accepted press it is accepted exactly when the debounce
window has passed; an accepted press toggles a flag, a discarded one leaves all flags as they are. -/
theorem secondPressNeedsTheDebounceWindow : Obligations.SecondPressNeedsTheDebounceWindow := by
  intro lv s t hany hrise hexec
  obtain rfl := exec_next.1 hexec
  obtain ⟨e, he⟩ := exists_firstRises hrise
  have hacc : accept s = true ↔ ticksSincePress s > s.cfg.DEBOUNCE_TICKS := by simp [accept_eq_true_iff, hany]
  intro delta
  by_cases hwin : delta > s.cfg.DEBOUNCE_TICKS
  · have hbtn : execState (.btn lv) s = acceptPress e { s with btn_prev := lv } := btnState_of_accept (hacc.2 hwin) he
    have htoggled : setEffect s.en e (!getEffect s.en e) ≠ s.en := fun h => by
      simpa using congrArg (getEffect · e) h
    simp [hbtn, hwin, htoggled]
  · have hbtn : execState (.btn lv) s = { s with btn_prev := lv } := btnState_of_not_accept (hacc.not.2 hwin)
    simp [hbtn, hwin, hany]

end Sys2Proof.Machine
end

section
/-! PROOFS. The host port's events (spec/47_host.md R270 to R276). -/

namespace Sys2Proof.Machine

/-! ## Responses and their widths (spec/00_scope.md R11) -/

@[simp] theorem sext64_toInt {w : Nat} (hw : w ≤ 64) (v : BitVec w) : (sext64 v).toInt = v.toInt :=
  BitVec.toInt_signExtend_of_le hw

@[simp] theorem zext64_toNat {w : Nat} (hw : w ≤ 64) (v : BitVec w) : (zext64 v).toNat = v.toNat :=
  BitVec.toNat_setWidth_of_le hw

@[simp] theorem zextFlag_toNat (b : Bool) : (zextFlag b).toNat = if b then 1 else 0 := by
  cases b <;> rfl

/-! ## The items of the reference engines (R276) -/

theorem refItem_of_ref {s : State} (h : s.cfg.EFFECT_IMPL = .ref) (v : Response) : refItem s v = v := by
  rw [refItem, h]

theorem refItem_of_supplied {s : State} (h : s.cfg.EFFECT_IMPL = .supplied) (v : Response) : refItem s v = 0 := by
  rw [refItem, h]

/-! ## The increments after a parameter write (spec/46_dispatch.md R260) -/

theorem paramWrite_ch_inc (p : Param) (v : Int) (s : State) : (paramWrite p v s).ch_inc =
    if p = .chorusRate then inc s.cfg.RATE_DIV (paramVal (paramWrite p v s) p) else s.ch_inc :=
  congrArg State.ch_inc (paramWrite_eq p v s)

theorem paramWrite_trem_inc (p : Param) (v : Int) (s : State) : (paramWrite p v s).trem_inc =
    if p = .tremRate then inc s.cfg.RATE_DIV (paramVal (paramWrite p v s) p) else s.trem_inc :=
  congrArg State.trem_inc (paramWrite_eq p v s)

/-! ## The obligations -/

/-- Settles O51: SETP is one parameter write, of which `paramVal_paramWrite` gives every parameter and `paramWrite_eq`
the increments and the frame. -/
theorem setParameterClamps : Obligations.SetParameterClamps := by
  intro p v s
  have hframe : (paramWrite p v s).en = s.en ∧ KeepsAudio s (paramWrite p v s) ∧ KeepsQuadrature s (paramWrite p v s) ∧
      KeepsDebounce s (paramWrite p v s) ∧ KeepsRest s (paramWrite p v s) ∧ KeepsPorts s (paramWrite p v s) := by
    rw [paramWrite_eq]
    exact ⟨rfl, keepsAudio_refl s, ⟨rfl, rfl, rfl⟩, ⟨rfl, rfl, rfl, rfl⟩, ⟨rfl, rfl, rfl, rfl⟩, rfl, rfl⟩
  exact ⟨paramWrite p v s, rfl,
    (paramVal_paramWrite p p v s).trans (if_pos rfl),
    fun q hq => (paramVal_paramWrite p q v s).trans (if_neg hq),
    fun hp => (paramWrite_ch_inc p v s).trans (if_pos hp),
    fun hp => (paramWrite_ch_inc p v s).trans (if_neg hp),
    fun hp => (paramWrite_trem_inc p v s).trans (if_pos hp),
    fun hp => (paramWrite_trem_inc p v s).trans (if_neg hp), hframe⟩

/-- Settles O55: the flag written is read back, and no other entry of the indexed field is touched. (`setEnable` itself
is the name of the model's update.) -/
theorem setEnable_setsOneFlag : Obligations.SetEnable := fun e v s =>
  ⟨setEnable e v s, rfl, fun e' => getEffect_setEffect s.en e e' v, rfl⟩

/-- Settles O56: a flag as a response is the number 1 or 0. -/
theorem getEnable : Obligations.GetEnable := fun e s =>
  ⟨zextFlag (getEffect s.en e), rfl, zextFlag_toNat _⟩

/-- Settles O57: a parameter register is no wider than a response, so sign extension keeps its value. -/
theorem getParameter : Obligations.GetParameter := fun p s =>
  ⟨sext64 (getParam s.param p), rfl, sext64_toInt (by decide) _⟩

/-- Settles O58: item by item, signed, unsigned or a flag; the items of the reference engines under either kind of
EFFECT_IMPL. -/
theorem readItem : Obligations.ReadItem := by
  intro n s
  refine ⟨itemVal s n, rfl, ?_⟩
  cases n with
  | bias | hpfLp => simp [itemVal]
  | biasSeeded | anyAccepted => simp [itemVal]
  | agcGain | wrCursor | samplesWritten | tickCount | outLevel | encPrev | lastAny | btnPrev => simp [itemVal]
  | phC | phT | lpB | tremInc => simp +contextual [itemVal, refItem_of_ref, refItem_of_supplied]

end Sys2Proof.Machine
end

section
/-! PROOFS. Refused events, and that nothing stops the machine (spec/60_exceptions.md R290 to R295). -/

namespace Sys2Proof.Machine

/-! ## The branches of a step that run no event -/

section
variable {s : State} {rest : List Input}

theorem step_of_reset {asserted : Bool} (hp : s.pending = .reset asserted :: rest) :
    step s = .next (setReset asserted (consume rest s)) := by simp [step, hp]

theorem step_of_reset_asserted {W : EventWord} (hp : s.pending = .event W :: rest) (hr : s.reset_asserted = true) :
    step s = .next (consume rest s) := by simp [step, hp, hr]

theorem step_of_refusedCmd {W : EventWord} {cmd : BitVec 8} (hp : s.pending = .event W :: rest)
    (hr : s.reset_asserted = false) (hd : decode W = .refusedCmd cmd) :
    step s = .next (markRefused (consume rest s)) := by simp [step, hp, hr, hd, refuseCommand]

end

/-! ## The outcome of an event word (R291, R294, R295) -/

section
variable {V W : EventWord} {i : Instr} {cmd : BitVec 8}

theorem eventOutcome_of_event (h : decode W = .event i) : eventOutcome W = .ok := by rw [eventOutcome, h]

theorem eventOutcome_of_refusedCmd (h : decode W = .refusedCmd cmd) : eventOutcome W = .refusedCmd := by
  rw [eventOutcome, h]

/-- A command byte is an event's or a reserved one, and the decoder goes by that alone (R112). -/
theorem eventOutcome_eq_of_cmd_eq (h : V.cmd = W.cmd) : eventOutcome V = eventOutcome W := by
  rcases decode_cases V with ⟨i, hi, hV⟩ | ⟨hr, hV⟩
  · have hW : decode W = .event (i.withData W.data) := by
      rw [← decode_make_cmd, hi, h, EventWord.make_cmd_data]
    rw [eventOutcome_of_event hV, eventOutcome_of_event hW]
  · have hW : decode W = .refusedCmd W.cmd := (reservedCommandsDecodeToTheRefusal W).2 (h ▸ hr)
    rw [eventOutcome_of_refusedCmd hV, eventOutcome_of_refusedCmd hW]

/-- The mask of the command byte leaves two words of one command byte alike. -/
theorem and_cmdMask_eq_of_cmd_eq (h : V.cmd = W.cmd) : V &&& 0xFF00000000 = W &&& 0xFF00000000 := by
  have hmask : (0xFF00000000 : EventWord) = EventWord.make 0xFF 0 := by decide
  rw [hmask, ← V.make_cmd_data, ← W.make_cmd_data, h, Laws.make_and_mask, Laws.make_and_mask]

end

/-! ## The obligations -/

/-- Settles O9: a word that decodes to an event has that event's command byte, so this one is refused. -/
theorem reservedCommandOnlySetsTheRefusedMark : Obligations.ReservedCommandOnlySetsTheRefusedMark := by
  intro s W rest hp hr hno
  rcases decode_cases W with ⟨i, hi, -⟩ | ⟨-, hd⟩
  · exact absurd (and_cmdMask_eq_of_cmd_eq ((cmd_encode i).trans hi)) (hno i)
  · exact step_of_refusedCmd hp hr hd

/-- Settles O10: the outcome follows the command byte, and its two codes the decoder's two answers. -/
theorem outcomeIsDecidedByTheCommandByte : Obligations.OutcomeIsDecidedByTheCommandByte := by
  refine ⟨fun _ _ => eventOutcome_eq_of_cmd_eq, fun W => ?_, fun W => ?_, fun p v =>
    eventOutcome_of_event (decode_make_cmd (.setp p v) _)⟩
  all_goals
    cases h : decode W with
    | event i => simp [eventOutcome_of_event h, EventOutcome.code]
    | refusedCmd cmd => simp [eventOutcome_of_refusedCmd h, EventOutcome.code]

/-- Settles O11: each of all that a step can do (`step_cases`) is a next state, and so is every event's (`exec_eq`). -/
theorem nothingStopsTheMachine : Obligations.NothingStopsTheMachine := by
  refine ⟨fun s => ?_, fun i s => ⟨_, exec_eq i s⟩⟩
  rcases step_cases s with ⟨-, hs⟩ | ⟨_, _, -, hs⟩ | ⟨_, _, -, -, hs⟩ | ⟨_, _, _, -, -, -, hs⟩ |
    ⟨_, _, _, -, -, -, hs⟩ <;> exact ⟨_, hs⟩

/-- Settles O14: the constructor's check is R8 and R9 together. -/
theorem illegalConfigurationHasNoMachine : Obligations.IllegalConfigurationHasNoMachine := fun _ =>
  ⟨fun h => dif_neg fun hlegal => h (Config.legal_of_isLegal hlegal), fun h => dif_pos h⟩

end Sys2Proof.Machine
end

section
/-! PROOFS. Reset: the reset input, the reset values, the invariant (spec/70_reset_and_hazards.md R310 to R313). -/

namespace Sys2Proof.Machine

/-- Settles O12: the branches of `step` for the reset input and for an event word while it is asserted; `setReset` and
`consume` replace the fields listed. -/
theorem resetInputActsBetweenEvents : Obligations.ResetInputActsBetweenEvents := fun _ _ =>
  ⟨step_of_reset, step_of_reset, fun _ => step_of_reset_asserted⟩

/-- R46, R197: a parameter that stays below RATE_DIV has an increment at reset that is the quotient. -/
theorem inc_init_toNat (c : LegalConfig) (p : Param) (h : (getParam c.range p).MAX ≤ c.RATE_DIV - 1) :
    ((inc c.RATE_DIV (getParam c.range p).INIT).toNat : Int) = (getParam c.range p).INIT * 2 ^ 32 / c.RATE_DIV := by
  obtain ⟨hmin, hlo, hhi, -⟩ := rangeOf_bounds (State.resetWith c) p
  exact inc_toNat (hmin.trans hlo) (hhi.trans h)

/-- R310: the reset output level is the mid-level, which fits its register. -/
theorem resetWith_out_level_toNat (c : LegalConfig) : (State.resetWith c).out_level.toNat = c.OUTPUT_SCALE / 2 := by
  have hS := c.OUTPUT_SCALE_le
  change (BitVec.ofNat 32 (c.OUTPUT_SCALE >>> 1)).toNat = _
  rw [BitVec.toNat_ofNat, Nat.shiftRight_eq_div_pow]
  omega

/-- Settles O13: the constants of `State.resetWith` as they stand; the output level, the parameters and their increments,
which depend on the configuration, by its legality. -/
theorem resetValues : Obligations.ResetValues := by
  intro c s
  obtain ⟨-, -, hch⟩ := c.chorusRate_within
  obtain ⟨-, -, htr⟩ := c.tremRate_within
  have hen : ∀ e, getEffect s.en e = false := fun e => by cases e <;> rfl
  have hbtn : ∀ e, (getEffect s.last_btn e).toNat = 0 := fun e => by cases e <;> rfl
  exact ⟨rfl, rfl, rfl, rfl, fun _ => rfl, rfl, rfl, rfl, resetWith_out_level_toNat c, hen, paramVal_resetWith c,
    inc_init_toNat c .chorusRate hch, inc_init_toNat c .tremRate htr, rfl, rfl, rfl, rfl, rfl, rfl, rfl, hbtn, rfl, rfl,
    rfl⟩

/-- Settles O59: `inv_resetWith` for every legal configuration, the implementation's among them. -/
theorem invariantHoldsAtReset : Obligations.InvariantHoldsAtReset := ⟨inv_resetWith, inv_resetWith _⟩

end Sys2Proof.Machine
end

section
/-! PROOFS. The debounce window while no tick passes (spec/70_reset_and_hazards.md R320; spec/46_dispatch.md R252). -/

namespace Sys2Proof.Machine

/-- No press was accepted and no tick passed from `s` to `t`. -/
structure KeepsWindow (s t : State) : Prop where
  presses : KeepsPresses s t
  tick_count : t.tick_count = s.tick_count
  cfg : t.cfg = s.cfg

section
variable {i : Instr} {s t u : State}

theorem KeepsWindow.refl (s : State) : KeepsWindow s s := ⟨⟨rfl, rfl, rfl⟩, rfl, rfl⟩

theorem KeepsWindow.trans (h : KeepsWindow s t) (h' : KeepsWindow t u) : KeepsWindow s u := by
  obtain ⟨⟨hbtn, hany, haa⟩, htick, hcfg⟩ := h'
  obtain ⟨⟨hbtn', hany', haa'⟩, htick', hcfg'⟩ := h
  exact ⟨⟨hbtn.trans hbtn', hany.trans hany', haa.trans haa'⟩, htick.trans htick', hcfg.trans hcfg'⟩

/-- The debounce predicate reads nothing else (R252). -/
theorem KeepsWindow.accept_eq (h : KeepsWindow s t) : accept t = accept s := by
  obtain ⟨⟨-, hany, haa⟩, htick, hcfg⟩ := h
  rw [accept, accept, hany, haa, htick, hcfg]

/-- With no press acceptable an event other than TICK accepts none, a button reading included. -/
theorem keepsWindow_execState (ha : accept s = false) (hi : ∀ raw, i ≠ .tick raw) : KeepsWindow s (execState i s) := by
  obtain ⟨haudio, -, hdebounce, -⟩ := fieldsAreWrittenByTheirOwnersOnly i s _ (exec_eq i s)
  obtain ⟨-, -, ⟨htick, -⟩, -⟩ := haudio.resolve_left fun ⟨raw, h⟩ => hi raw h
  refine ⟨?_, htick, execState_cfg i s⟩
  rcases hdebounce with ⟨lv, rfl⟩ | ⟨-, hpresses⟩
  · rw [execState, btnState_of_not_accept (by simp [ha])]
    exact ⟨rfl, rfl, rfl⟩
  · exact hpresses

/-- With no press acceptable SETEN alone writes the enable flags. -/
theorem execState_en_of_not_accept (ha : accept s = false) (hi : ∀ e v, i ≠ .seten e v) :
    (execState i s).en = s.en := by
  obtain ⟨-, -, -, -, hen, -⟩ := fieldsAreWrittenByTheirOwnersOnly i s _ (exec_eq i s)
  rcases hen with ⟨lv, rfl⟩ | ⟨e, v, h⟩ | hen
  · rw [execState, btnState_of_not_accept (by simp [ha])]
  · exact absurd h (hi e v)
  · exact hen

end

/-- Settles O54: the window stands still without ticks, so along the run no press is ever acceptable. -/
theorem withoutTicksNoSecondPress : Obligations.WithoutTicksNoSecondPress := by
  intro is s t htick hany hwin hrun
  have ha : accept s = false := by
    rw [← Bool.not_eq_true, accept_eq_true_iff]
    simp [hany, hwin]
  have hwindow : ∀ i ∈ is, ∀ u, KeepsWindow s u → KeepsWindow s (execState i u) := fun i hi u hu =>
    hu.trans (keepsWindow_execState (hu.accept_eq.trans ha) (htick i hi))
  obtain ⟨⟨hbtn, hlast, -⟩, -, -⟩ := runEvents_induct hwindow (KeepsWindow.refl s) hrun
  refine ⟨hlast, hbtn, fun hseten => ?_⟩
  have hflags : ∀ i ∈ is, ∀ u, KeepsWindow s u ∧ u.en = s.en →
      KeepsWindow s (execState i u) ∧ (execState i u).en = s.en := fun i hi u ⟨hu, hen⟩ =>
    ⟨hwindow i hi u hu, (execState_en_of_not_accept (hu.accept_eq.trans ha) (hseten i hi)).trans hen⟩
  exact (runEvents_induct hflags ⟨KeepsWindow.refl s, rfl⟩ hrun).2

end Sys2Proof.Machine
end
